-- ==== Sys2Proof/Word.lean ====
section
/-!
DEFINITION. The data shapes of the engine: bytes, words, the 4-byte columns and 16-byte blocks of the AES state,
32-byte sequences, and a 60-word key schedule. Data only; the operations on them are in Machine/Operands.lean.
-/

namespace Sys2Proof

/-- A byte is 8 bits (R10). -/
abbrev Byte := BitVec 8

/-- Every host-visible register and every schedule word is 32 bits (R8, R31). -/
abbrev Word := BitVec 32

/-- Column `c` of the AES state: `r0` is row 0, the byte `S[4c]`, and `r3` is row 3, the byte `S[4c+3]` (R144). -/
@[ext]
structure Column where
  r0 : Byte
  r1 : Byte
  r2 : Byte
  r3 : Byte
  deriving DecidableEq, Repr, Inhabited

/-- A block, the 16-byte sequence `S[0..16)` of R10 and R144: column `c` holds the bytes `4c` to `4c+3`. -/
@[ext]
structure Block where
  c0 : Column
  c1 : Column
  c2 : Column
  c3 : Column
  deriving DecidableEq, Repr, Inhabited

/-- A 32-byte sequence as its halves: bytes 0..15 and bytes 16..31 (`Key()` of R41, `IVB()` of R42). -/
@[ext]
structure Bytes32 where
  lo : Block
  hi : Block
  deriving DecidableEq, Repr, Inhabited

/-- A key schedule: 60 words of 32 bits (R7 `SCHED_WORDS`, R50, R51). -/
abbrev Schedule := Vector Word 60

end Sys2Proof
end

