-- ==== Sys2Proof/Syntax.lean ====
section
/-!
DEFINITION. The nine commands (30_encoding.md R112), one constructor for each row of the opcode table, and the
command word's two fields (R110). A command has no operand field (R111), so no constructor has an argument.
-/

namespace Sys2Proof

/-- The commands of R112. -/
inductive Instr where
  /-- `KSE`: derive the encrypt key schedule (R160). -/
  | kse
  /-- `KSD`: derive the decrypt key schedule (R161). -/
  | ksd
  /-- `ENCB`: encrypt one block with the stored encrypt schedule (R162). -/
  | encb
  /-- `DECB`: decrypt one block with the stored decrypt schedule (R163). -/
  | decb
  /-- `CBCE`: CBC encryption (R200). -/
  | cbce
  /-- `CBCD`: CBC decryption (R201). -/
  | cbcd
  /-- `CTR`: the CTR transform (R222). -/
  | ctr
  /-- `IGEE`: IGE encryption (R241). -/
  | igee
  /-- `IGED`: IGE decryption (R242). -/
  | iged
  deriving DecidableEq, Repr, Inhabited

/-- The two fields of a command word: `OP` is bits 7:0 and `RSV` is bits 31:8 (R110). -/
structure CommandWord where
  op  : BitVec 8
  rsv : BitVec 24
  deriving DecidableEq, Repr

end Sys2Proof
end

