-- ==== Sys2Proof/WellFormed.lean ====
section
/-!
DEFINITION. What a legal command word is (30_encoding.md R110, R113): the reserved bits are zero and the opcode is one
of the nine. A command itself has no field, so every `Instr` is well-formed.
-/

namespace Sys2Proof

/-- The nine opcode values of R112. -/
def assignedOpcodes : List (BitVec 8) :=
  [0x01, 0x02, 0x03, 0x04, 0x10, 0x11, 0x20, 0x30, 0x31]

/-- `RSV` must be 0 (R110). -/
def CommandWord.reservedZero (c : CommandWord) : Bool :=
  c.rsv == 0

/-- `OP` must be an assigned opcode (R113). -/
def CommandWord.opcodeAssigned (c : CommandWord) : Bool :=
  assignedOpcodes.contains c.op

/-- A command word is legal when both checks of R113 pass. -/
def CommandWord.wellFormed (c : CommandWord) : Bool :=
  c.reservedZero && c.opcodeAssigned

/-- Every command is well-formed: it has no operand field that could be out of range (R111). -/
def Instr.wellFormed : Instr → Bool
  | .kse | .ksd | .encb | .decb | .cbce | .cbcd | .ctr | .igee | .iged => true

end Sys2Proof
end

