-- ==== Sys2Proof/Decode.lean ====
section
/-!
DEFINITION. Decoding and encoding of command words (30_encoding.md R110, R112, R113, R117). Decoding is total on all
32-bit words and refuses by name; it reads the whole word (mask 0xFFFFFFFF).
-/

namespace Sys2Proof

/-- Why a word is no command (R113). Both reasons are reported to the host as `ILLEGAL_CMD` (R264). -/
inductive DecodeError where
  /-- A reserved bit, one of 31:8, is set. -/
  | reservedBitSet
  /-- The opcode is not one of the nine. -/
  | opcodeNotAssigned
  deriving DecidableEq, Repr

/-- The two fields of a word (R110). -/
def splitWord (v : Word) : CommandWord :=
  { op := v.extractLsb' 0 8, rsv := v.extractLsb' 8 24 }

/-- The command an opcode names (R112). -/
def opcodeInstr (op : BitVec 8) : Option Instr :=
  if op = 0x01 then some .kse
  else if op = 0x02 then some .ksd
  else if op = 0x03 then some .encb
  else if op = 0x04 then some .decb
  else if op = 0x10 then some .cbce
  else if op = 0x11 then some .cbcd
  else if op = 0x20 then some .ctr
  else if op = 0x30 then some .igee
  else if op = 0x31 then some .iged
  else none

/-- Decoding of a command word: `RSV` must be 0 and `OP` assigned (R110, R112, R113). -/
def decode (v : Word) : Except DecodeError Instr :=
  if (splitWord v).reservedZero then
    match opcodeInstr (splitWord v).op with
    | some i => .ok i
    | none => .error .opcodeNotAssigned
  else .error .reservedBitSet

/-- The opcode of a command, from the table of R112. -/
def opcode : Instr → BitVec 8
  | .kse => 0x01
  | .ksd => 0x02
  | .encb => 0x03
  | .decb => 0x04
  | .cbce => 0x10
  | .cbcd => 0x11
  | .ctr => 0x20
  | .igee => 0x30
  | .iged => 0x31

/-- The command word of a command: `RSV` = 0 above its opcode (R110, R112). -/
def encode (i : Instr) : Word :=
  (0 : BitVec 24) ++ opcode i

/-- The command that the decoder reads from an instruction whose bits are `w`, of which the opcode table gives `nbits`.
A command word is 32 bits (R110, R117), so more bits than that are no command word. -/
def decodeTableWord (nbits w : Nat) : Option Instr :=
  if nbits ≤ 32 ∧ w < 2 ^ 32 then
    match decode (BitVec.ofNat 32 (w % 2 ^ nbits)) with
    | .ok i => some i
    | .error _ => none
  else none

end Sys2Proof
end

