-- ==== Sys2Proof/Machine/Operands.lean ====
section
/-!
DEFINITION. The operand forms: big-endian packing of words and bytes (00_scope.md R11), byte-wise exclusive or (R10), the
byte views `Key()` and `IVB()` of the register groups (10_state.md R41, R42), the write-back `SetIV16` (R42) and the
numbered bytes of a block.
-/

namespace Sys2Proof.Machine

/-- `bytes32(w)`: the four bytes of a word, most significant first (R11). -/
def bytes32 (w : Word) : Column :=
  { r0 := w.extractLsb' 24 8, r1 := w.extractLsb' 16 8, r2 := w.extractLsb' 8 8, r3 := w.extractLsb' 0 8 }

/-- `be32`: the word whose most significant byte is the byte at the lowest index (R11). -/
def be32 (c : Column) : Word :=
  c.r0 ++ c.r1 ++ c.r2 ++ c.r3

/-- Byte-wise exclusive or of two columns (R10). -/
def xorColumn (a b : Column) : Column :=
  { r0 := a.r0 ^^^ b.r0, r1 := a.r1 ^^^ b.r1, r2 := a.r2 ^^^ b.r2, r3 := a.r3 ^^^ b.r3 }

/-- `A ^ B` on two blocks: byte-wise exclusive or (R10). -/
def xorBlock (a b : Block) : Block :=
  { c0 := xorColumn a.c0 b.c0, c1 := xorColumn a.c1 b.c1, c2 := xorColumn a.c2 b.c2, c3 := xorColumn a.c3 b.c3 }

/-- The bytes of a column in memory order. -/
def columnBytes (c : Column) : List Byte :=
  [c.r0, c.r1, c.r2, c.r3]

/-- The bytes of a block in memory order, `S[0]` first (R10, R144). -/
def blockBytes (b : Block) : List Byte :=
  columnBytes b.c0 ++ columnBytes b.c1 ++ columnBytes b.c2 ++ columnBytes b.c3

/-- `B[i]` of a block; only `i < 16` names a byte. -/
def blockByte (b : Block) (i : Nat) : Byte :=
  (blockBytes b).getD i 0

/-- The column of the bytes `f 0` to `f 3`. -/
def columnOf (f : Nat → Byte) : Column :=
  { r0 := f 0, r1 := f 1, r2 := f 2, r3 := f 3 }

/-- The block of the bytes `f 0` to `f 15`, in memory order. -/
def blockOf (f : Nat → Byte) : Block :=
  { c0 := columnOf f, c1 := columnOf fun j => f (4 + j), c2 := columnOf fun j => f (8 + j),
    c3 := columnOf fun j => f (12 + j) }

/-- The 32 bytes of eight registers, register 0 first, each big-endian: `Key()` of `KEY0..KEY7` (R41) and `IVB()` of
`IV0..IV7` (R42). -/
def registerBytes (r : Vector Word 8) : Bytes32 :=
  { lo := { c0 := bytes32 r[0], c1 := bytes32 r[1], c2 := bytes32 r[2], c3 := bytes32 r[3] },
    hi := { c0 := bytes32 r[4], c1 := bytes32 r[5], c2 := bytes32 r[6], c3 := bytes32 r[7] } }

/-- `SetIV16(B)`: registers 0 to 3 take the block's words, registers 4 to 7 are unchanged (R42). -/
def setLow16 (r : Vector Word 8) (b : Block) : Vector Word 8 :=
  #v[be32 b.c0, be32 b.c1, be32 b.c2, be32 b.c3, r[4], r[5], r[6], r[7]]

end Sys2Proof.Machine
end

