-- ==== Sys2Proof/Machine/Cipher.lean ====
section
/-!
DEFINITION. The AES-256 primitives of 40_cipher_core.md, part 1 (R140 to R156): field arithmetic, the S-boxes, the round
transforms, both key schedules, the block encryptor and the block decryptor.
-/

namespace Sys2Proof.Machine

/-- Multiplication by {02} in GF(2^8) with 0x11B (R140). -/
def xtime (a : Byte) : Byte :=
  (a <<< 1) ^^^ (if a.getLsbD 7 then 0x1B else 0)

/-- `xtime` applied `i` times (R140). -/
def xtimeN : Nat → Byte → Byte
  | 0, a => a
  | i + 1, a => xtime (xtimeN i a)

/-- `xtime^i(a)` where bit `i` of `b` is 1, and 0 where it is 0 (R140). -/
def gfTerm (a b : Byte) (i : Nat) : Byte :=
  if b.getLsbD i then xtimeN i a else 0

/-- The field product `a • b`: the exclusive or of `xtime^i(a)` over the bits `i` of `b` that are 1 (R140). -/
def gfMul (a b : Byte) : Byte :=
  gfTerm a b 0 ^^^ gfTerm a b 1 ^^^ gfTerm a b 2 ^^^ gfTerm a b 3 ^^^
    gfTerm a b 4 ^^^ gfTerm a b 5 ^^^ gfTerm a b 6 ^^^ gfTerm a b 7

/-- `inv(a)` (R141): 0 for 0, else the byte `b` with `a • b = 0x01`. -/
def gfInv (a : Byte) : Byte :=
  (((List.range 256).map (BitVec.ofNat 8)).find? fun b => gfMul a b == 1).getD 0

/-- The S-box by its formula: the inverse, then the affine map (R142). -/
def sboxFormula (a : Byte) : Byte :=
  let b := gfInv a
  b ^^^ b.rotateLeft 1 ^^^ b.rotateLeft 2 ^^^ b.rotateLeft 3 ^^^ b.rotateLeft 4 ^^^ 0x63

/-- The S-box table of R142: `SBOX(16*hi + lo)` stands at row `hi`, column `lo`. -/
def sboxRows : List (List Nat) :=
  [[0x63, 0x7c, 0x77, 0x7b, 0xf2, 0x6b, 0x6f, 0xc5, 0x30, 0x01, 0x67, 0x2b, 0xfe, 0xd7, 0xab, 0x76],
   [0xca, 0x82, 0xc9, 0x7d, 0xfa, 0x59, 0x47, 0xf0, 0xad, 0xd4, 0xa2, 0xaf, 0x9c, 0xa4, 0x72, 0xc0],
   [0xb7, 0xfd, 0x93, 0x26, 0x36, 0x3f, 0xf7, 0xcc, 0x34, 0xa5, 0xe5, 0xf1, 0x71, 0xd8, 0x31, 0x15],
   [0x04, 0xc7, 0x23, 0xc3, 0x18, 0x96, 0x05, 0x9a, 0x07, 0x12, 0x80, 0xe2, 0xeb, 0x27, 0xb2, 0x75],
   [0x09, 0x83, 0x2c, 0x1a, 0x1b, 0x6e, 0x5a, 0xa0, 0x52, 0x3b, 0xd6, 0xb3, 0x29, 0xe3, 0x2f, 0x84],
   [0x53, 0xd1, 0x00, 0xed, 0x20, 0xfc, 0xb1, 0x5b, 0x6a, 0xcb, 0xbe, 0x39, 0x4a, 0x4c, 0x58, 0xcf],
   [0xd0, 0xef, 0xaa, 0xfb, 0x43, 0x4d, 0x33, 0x85, 0x45, 0xf9, 0x02, 0x7f, 0x50, 0x3c, 0x9f, 0xa8],
   [0x51, 0xa3, 0x40, 0x8f, 0x92, 0x9d, 0x38, 0xf5, 0xbc, 0xb6, 0xda, 0x21, 0x10, 0xff, 0xf3, 0xd2],
   [0xcd, 0x0c, 0x13, 0xec, 0x5f, 0x97, 0x44, 0x17, 0xc4, 0xa7, 0x7e, 0x3d, 0x64, 0x5d, 0x19, 0x73],
   [0x60, 0x81, 0x4f, 0xdc, 0x22, 0x2a, 0x90, 0x88, 0x46, 0xee, 0xb8, 0x14, 0xde, 0x5e, 0x0b, 0xdb],
   [0xe0, 0x32, 0x3a, 0x0a, 0x49, 0x06, 0x24, 0x5c, 0xc2, 0xd3, 0xac, 0x62, 0x91, 0x95, 0xe4, 0x79],
   [0xe7, 0xc8, 0x37, 0x6d, 0x8d, 0xd5, 0x4e, 0xa9, 0x6c, 0x56, 0xf4, 0xea, 0x65, 0x7a, 0xae, 0x08],
   [0xba, 0x78, 0x25, 0x2e, 0x1c, 0xa6, 0xb4, 0xc6, 0xe8, 0xdd, 0x74, 0x1f, 0x4b, 0xbd, 0x8b, 0x8a],
   [0x70, 0x3e, 0xb5, 0x66, 0x48, 0x03, 0xf6, 0x0e, 0x61, 0x35, 0x57, 0xb9, 0x86, 0xc1, 0x1d, 0x9e],
   [0xe1, 0xf8, 0x98, 0x11, 0x69, 0xd9, 0x8e, 0x94, 0x9b, 0x1e, 0x87, 0xe9, 0xce, 0x55, 0x28, 0xdf],
   [0x8c, 0xa1, 0x89, 0x0d, 0xbf, 0xe6, 0x42, 0x68, 0x41, 0x99, 0x2d, 0x0f, 0xb0, 0x54, 0xbb, 0x16]]

/-- The inverse S-box table of R143: `INV_SBOX(16*hi + lo)` stands at row `hi`, column `lo`. -/
def invSboxRows : List (List Nat) :=
  [[0x52, 0x09, 0x6a, 0xd5, 0x30, 0x36, 0xa5, 0x38, 0xbf, 0x40, 0xa3, 0x9e, 0x81, 0xf3, 0xd7, 0xfb],
   [0x7c, 0xe3, 0x39, 0x82, 0x9b, 0x2f, 0xff, 0x87, 0x34, 0x8e, 0x43, 0x44, 0xc4, 0xde, 0xe9, 0xcb],
   [0x54, 0x7b, 0x94, 0x32, 0xa6, 0xc2, 0x23, 0x3d, 0xee, 0x4c, 0x95, 0x0b, 0x42, 0xfa, 0xc3, 0x4e],
   [0x08, 0x2e, 0xa1, 0x66, 0x28, 0xd9, 0x24, 0xb2, 0x76, 0x5b, 0xa2, 0x49, 0x6d, 0x8b, 0xd1, 0x25],
   [0x72, 0xf8, 0xf6, 0x64, 0x86, 0x68, 0x98, 0x16, 0xd4, 0xa4, 0x5c, 0xcc, 0x5d, 0x65, 0xb6, 0x92],
   [0x6c, 0x70, 0x48, 0x50, 0xfd, 0xed, 0xb9, 0xda, 0x5e, 0x15, 0x46, 0x57, 0xa7, 0x8d, 0x9d, 0x84],
   [0x90, 0xd8, 0xab, 0x00, 0x8c, 0xbc, 0xd3, 0x0a, 0xf7, 0xe4, 0x58, 0x05, 0xb8, 0xb3, 0x45, 0x06],
   [0xd0, 0x2c, 0x1e, 0x8f, 0xca, 0x3f, 0x0f, 0x02, 0xc1, 0xaf, 0xbd, 0x03, 0x01, 0x13, 0x8a, 0x6b],
   [0x3a, 0x91, 0x11, 0x41, 0x4f, 0x67, 0xdc, 0xea, 0x97, 0xf2, 0xcf, 0xce, 0xf0, 0xb4, 0xe6, 0x73],
   [0x96, 0xac, 0x74, 0x22, 0xe7, 0xad, 0x35, 0x85, 0xe2, 0xf9, 0x37, 0xe8, 0x1c, 0x75, 0xdf, 0x6e],
   [0x47, 0xf1, 0x1a, 0x71, 0x1d, 0x29, 0xc5, 0x89, 0x6f, 0xb7, 0x62, 0x0e, 0xaa, 0x18, 0xbe, 0x1b],
   [0xfc, 0x56, 0x3e, 0x4b, 0xc6, 0xd2, 0x79, 0x20, 0x9a, 0xdb, 0xc0, 0xfe, 0x78, 0xcd, 0x5a, 0xf4],
   [0x1f, 0xdd, 0xa8, 0x33, 0x88, 0x07, 0xc7, 0x31, 0xb1, 0x12, 0x10, 0x59, 0x27, 0x80, 0xec, 0x5f],
   [0x60, 0x51, 0x7f, 0xa9, 0x19, 0xb5, 0x4a, 0x0d, 0x2d, 0xe5, 0x7a, 0x9f, 0x93, 0xc9, 0x9c, 0xef],
   [0xa0, 0xe0, 0x3b, 0x4d, 0xae, 0x2a, 0xf5, 0xb0, 0xc8, 0xeb, 0xbb, 0x3c, 0x83, 0x53, 0x99, 0x61],
   [0x17, 0x2b, 0x04, 0x7e, 0xba, 0x77, 0xd6, 0x26, 0xe1, 0x69, 0x14, 0x63, 0x55, 0x21, 0x0c, 0x7d]]

/-- The entry of a table at row `a / 16`, column `a mod 16`. -/
def tableEntry (rows : List (List Nat)) (a : Byte) : Byte :=
  BitVec.ofNat 8 ((rows.getD (a.toNat / 16) []).getD (a.toNat % 16) 0)

/-- `SBOX` (R142). -/
def sbox (a : Byte) : Byte :=
  tableEntry sboxRows a

/-- `INV_SBOX` (R143). -/
def invSbox (a : Byte) : Byte :=
  tableEntry invSboxRows a

/-- `SBOX` on each byte of a column. -/
def subColumn (c : Column) : Column :=
  { r0 := sbox c.r0, r1 := sbox c.r1, r2 := sbox c.r2, r3 := sbox c.r3 }

/-- `INV_SBOX` on each byte of a column. -/
def invSubColumn (c : Column) : Column :=
  { r0 := invSbox c.r0, r1 := invSbox c.r1, r2 := invSbox c.r2, r3 := invSbox c.r3 }

/-- `SubBytes` (R146). -/
def subBytes (s : Block) : Block :=
  { c0 := subColumn s.c0, c1 := subColumn s.c1, c2 := subColumn s.c2, c3 := subColumn s.c3 }

/-- `InvSubBytes` (R146). -/
def invSubBytes (s : Block) : Block :=
  { c0 := invSubColumn s.c0, c1 := invSubColumn s.c1, c2 := invSubColumn s.c2, c3 := invSubColumn s.c3 }

/-- `ShiftRows`: row `r` rotated left by `r` columns (R147). -/
def shiftRows (s : Block) : Block :=
  { c0 := { r0 := s.c0.r0, r1 := s.c1.r1, r2 := s.c2.r2, r3 := s.c3.r3 },
    c1 := { r0 := s.c1.r0, r1 := s.c2.r1, r2 := s.c3.r2, r3 := s.c0.r3 },
    c2 := { r0 := s.c2.r0, r1 := s.c3.r1, r2 := s.c0.r2, r3 := s.c1.r3 },
    c3 := { r0 := s.c3.r0, r1 := s.c0.r1, r2 := s.c1.r2, r3 := s.c2.r3 } }

/-- `InvShiftRows`: row `r` rotated right by `r` columns (R147). -/
def invShiftRows (s : Block) : Block :=
  { c0 := { r0 := s.c0.r0, r1 := s.c3.r1, r2 := s.c2.r2, r3 := s.c1.r3 },
    c1 := { r0 := s.c1.r0, r1 := s.c0.r1, r2 := s.c3.r2, r3 := s.c2.r3 },
    c2 := { r0 := s.c2.r0, r1 := s.c1.r1, r2 := s.c0.r2, r3 := s.c3.r3 },
    c3 := { r0 := s.c3.r0, r1 := s.c2.r1, r2 := s.c1.r2, r3 := s.c0.r3 } }

/-- `MixColumns` on one column (R148). -/
def mixColumn (a : Column) : Column :=
  { r0 := gfMul 0x02 a.r0 ^^^ gfMul 0x03 a.r1 ^^^ a.r2 ^^^ a.r3,
    r1 := a.r0 ^^^ gfMul 0x02 a.r1 ^^^ gfMul 0x03 a.r2 ^^^ a.r3,
    r2 := a.r0 ^^^ a.r1 ^^^ gfMul 0x02 a.r2 ^^^ gfMul 0x03 a.r3,
    r3 := gfMul 0x03 a.r0 ^^^ a.r1 ^^^ a.r2 ^^^ gfMul 0x02 a.r3 }

/-- `InvMixColumns` on one column (R149). -/
def invMixColumn (a : Column) : Column :=
  { r0 := gfMul 0x0E a.r0 ^^^ gfMul 0x0B a.r1 ^^^ gfMul 0x0D a.r2 ^^^ gfMul 0x09 a.r3,
    r1 := gfMul 0x09 a.r0 ^^^ gfMul 0x0E a.r1 ^^^ gfMul 0x0B a.r2 ^^^ gfMul 0x0D a.r3,
    r2 := gfMul 0x0D a.r0 ^^^ gfMul 0x09 a.r1 ^^^ gfMul 0x0E a.r2 ^^^ gfMul 0x0B a.r3,
    r3 := gfMul 0x0B a.r0 ^^^ gfMul 0x0D a.r1 ^^^ gfMul 0x09 a.r2 ^^^ gfMul 0x0E a.r3 }

/-- `MixColumns` (R148). -/
def mixColumns (s : Block) : Block :=
  { c0 := mixColumn s.c0, c1 := mixColumn s.c1, c2 := mixColumn s.c2, c3 := mixColumn s.c3 }

/-- `InvMixColumns` (R149). -/
def invMixColumns (s : Block) : Block :=
  { c0 := invMixColumn s.c0, c1 := invMixColumn s.c1, c2 := invMixColumn s.c2, c3 := invMixColumn s.c3 }

/-- `InvMixWord` (R149). -/
def invMixWord (w : Word) : Word :=
  be32 (invMixColumn (bytes32 w))

/-- `RotWord`: a rotation left by one byte (R150). -/
def rotWord (w : Word) : Word :=
  w.rotateLeft 8

/-- `SubWord`: `SBOX` on each byte of a word (R150). -/
def subWord (w : Word) : Word :=
  be32 (subColumn (bytes32 w))

/-- `Rcon(j)` (R151), used for `j` = 1 to 7. -/
def rcon (j : Nat) : Word :=
  (xtimeN (j - 1) 0x01).setWidth 32 <<< 24

/-- Word `i` of a schedule; only `i < 60` names a word. -/
def scheduleWord (w : Schedule) (i : Nat) : Word :=
  w.toList.getD i 0

/-- The word `t` that the loop of R152 combines with `W[i-8]`, from `W[i-1]`. -/
def expandTemp (i : Nat) (prev : Word) : Word :=
  if i % 8 = 0 then subWord (rotWord prev) ^^^ rcon (i / 8)
  else if i % 8 = 4 then subWord prev
  else prev

/-- `n` passes of the loop of R152 on the words so far, `W[0]` first. -/
def expandLoop : Nat → List Word → List Word
  | 0, ws => ws
  | n + 1, ws =>
    expandLoop n (ws ++ [ws.getD (ws.length - 8) 0 ^^^ expandTemp ws.length (ws.getD (ws.length - 1) 0)])

/-- `W[0..8)`, the key's own words (R152). -/
def keyWords (k : Bytes32) : List Word :=
  [be32 k.lo.c0, be32 k.lo.c1, be32 k.lo.c2, be32 k.lo.c3, be32 k.hi.c0, be32 k.hi.c1, be32 k.hi.c2, be32 k.hi.c3]

theorem expandLoop_length (n : Nat) (ws : List Word) : (expandLoop n ws).length = ws.length + n := by
  induction n generalizing ws with
  | zero => rfl
  | succ n ih => rw [expandLoop, ih, List.length_append]; simp; omega

/-- `ExpandKey(K)`: the encrypt schedule (R152). -/
def expandKey (k : Bytes32) : Schedule :=
  ⟨(expandLoop 52 (keyWords k)).toArray, by rw [List.size_toArray, expandLoop_length]; rfl⟩

/-- Word `4r + c` of the decrypt schedule, from the encrypt schedule `e` (R154). -/
def decWord (e : Schedule) (i : Nat) : Word :=
  let w := scheduleWord e (4 * (14 - i / 4) + i % 4)
  if i / 4 = 0 ∨ i / 4 = 14 then w else invMixWord w

/-- `ExpandDecKey(K)`: the decrypt schedule in equivalent inverse-cipher form (R154). -/
def expandDecKey (k : Bytes32) : Schedule :=
  ⟨((List.range 60).map (decWord (expandKey k))).toArray, by simp⟩

/-- Round key `r` of a schedule, the words `W[4r..4r+4)`, as bytes (R145). -/
def roundKey (w : Schedule) (r : Nat) : Block :=
  { c0 := bytes32 (scheduleWord w (4 * r)), c1 := bytes32 (scheduleWord w (4 * r + 1)),
    c2 := bytes32 (scheduleWord w (4 * r + 2)), c3 := bytes32 (scheduleWord w (4 * r + 3)) }

/-- `AddRoundKey(S, W, r)` (R145). -/
def addRoundKey (s : Block) (w : Schedule) (r : Nat) : Block :=
  xorBlock s (roundKey w r)

/-- The AES state after `n` full rounds of encryption (R155, the loop over rounds 1 to 13). -/
def encRounds (w : Schedule) : Nat → Block → Block
  | 0, s => s
  | n + 1, s => addRoundKey (mixColumns (shiftRows (subBytes (encRounds w n s)))) w (n + 1)

/-- `EncryptBlock(in, W)` (R155). -/
def encryptBlock (b : Block) (w : Schedule) : Block :=
  addRoundKey (shiftRows (subBytes (encRounds w 13 (addRoundKey b w 0)))) w 14

/-- The AES state after `n` full rounds of decryption (R156, the loop over rounds 1 to 13). -/
def decRounds (d : Schedule) : Nat → Block → Block
  | 0, s => s
  | n + 1, s => addRoundKey (invMixColumns (invShiftRows (invSubBytes (decRounds d n s)))) d (n + 1)

/-- `DecryptBlock(in, D)` (R156). -/
def decryptBlock (b : Block) (d : Schedule) : Block :=
  addRoundKey (invShiftRows (invSubBytes (decRounds d 13 (addRoundKey b d 0)))) d 14

end Sys2Proof.Machine
end

