-- ==== Sys2Proof/Machine/Registers.lean ====
section
/-!
DEFINITION. The data types of the registers that are more than a plain word: the sequencer's phase (10_state.md R53), the
error codes (60_exceptions.md R260), the latched command (R54) and the working registers of a running command (R55).
-/

namespace Sys2Proof.Machine

/-- The sequencer's state (R53); `STATUS.BUSY = 1` exactly in `run`. -/
inductive Phase where
  | idle
  | run
  deriving DecidableEq, Repr, Inhabited

/-- The error codes of `STATUS.ERR` (R260). Codes 7 to 15 are never produced, so they are no constructors. -/
inductive ErrCode where
  | ok
  | invalidLength
  | invalidState
  | illegalCmd
  | range
  | overlap
  | noSchedule
  deriving DecidableEq, Repr, Inhabited

/-- The latched command (R54): what acceptance copies, and what the command's body reads. -/
structure Latch where
  /-- `OP`: the opcode, as the command it names. -/
  op  : Instr
  /-- `SRC_L`. -/
  src : Word
  /-- `DST_L`. -/
  dst : Word
  /-- `N_L`: the byte count. -/
  n   : Word
  /-- `CUR_L`. -/
  cur : BitVec 8
  /-- `K_L`: the 32 key bytes. -/
  k   : Bytes32
  /-- `IV_L`: the 32 IV bytes. -/
  iv  : Bytes32
  deriving DecidableEq, Repr, Inhabited

/-- The working registers of a running command (R55). -/
structure Work where
  /-- `S`: the 16-byte AES state. -/
  s  : Block
  /-- `RC`: the round counter, 0 to 14. -/
  rc : Fin 15
  /-- `BI`: the block index; the spec gives it no width (DEDUCED: a number, notes/assumptions/11.md, safe). -/
  bi : Nat
  /-- `X`: an IGE chain value. -/
  x  : Block
  /-- `Y`: an IGE chain value. -/
  y  : Block
  /-- `CV`: the CBC chaining value or CTR counter. -/
  cv : Block
  /-- `KS`: the CTR keystream block. -/
  ks : Block
  deriving DecidableEq, Repr, Inhabited

end Sys2Proof.Machine
end

