-- ==== Sys2Proof/Config.lean ====
section
/-!
DEFINITION. What an implementation fixes (00_scope.md R8: `DMEM_BYTES` and `BASE`) and the free values, opaque constants
for the values the spec leaves unspecified (93_implementation_defined.md U1, U2, U3, U4, U8, U9). Nothing in Lean can
evaluate a free value, so a theorem that holds holds for every value of it. `LAT`, the third parameter of R8, is timing
and is left out (notes/assumptions/6.md).
-/

namespace Sys2Proof

/-- The parameters of R8. No step changes them (DESIGN CHOICE: State carries them, notes/assumptions/1.md). -/
structure Config where
  /-- `DMEM_BYTES`: the size of the data buffer in bytes. -/
  dmemBytes : Nat
  /-- `BASE`: the bus address of the engine's window. -/
  base : Nat
  deriving DecidableEq, Repr

/-- The values R8 allows: `DMEM_BYTES` a multiple of 16 from 16 to 65536, `BASE` a multiple of 128 KiB. -/
abbrev Config.legal (c : Config) : Prop :=
  c.dmemBytes % 16 = 0 ∧ 16 ≤ c.dmemBytes ∧ c.dmemBytes ≤ 65536 ∧ c.base % 0x20000 = 0

/-- What DMEM byte `a` holds at power-up: any value (R301, U2). -/
opaque Config.powerUpByte : Nat → Byte

/-- The value of the `n`-th unspecified byte drawn: a DMEM byte read while busy or in reset (R89, R300), or a byte a
reset leaves in the destination range of an abandoned command (R301). -/
opaque Config.freeByte : Nat → Byte

/-- The value of the `n`-th unspecified word drawn: a read of `IVk`, `CURSOR` or DMEM while busy (R32, R89), or a read
during reset (R300). -/
opaque Config.freeWord : Nat → Word

/-- The value of the `n`-th unspecified schedule drawn: `EKS` and `DKS` after a reset event (R60, U4). -/
opaque Config.freeSchedule : Nat → Schedule

/-- The value of the `n`-th unspecified latch drawn: the latches between commands (R60, U9). -/
opaque Config.freeLatch : Nat → Machine.Latch

/-- The value of the `n`-th unspecified working-register file drawn: between commands (R55, R60, U9). -/
opaque Config.freeWork : Nat → Machine.Work

end Sys2Proof
end

