-- ==== Sys2Proof/Machine/State.lean ====
section
/-!
DEFINITION. The engine's whole state (10_state.md R30) as plain data, the inputs that the host and the platform give it,
the bus's answer, the reasons a step can stop, and the state right after reset (R60, R310).
-/

namespace Sys2Proof.Machine

/-- `DMEM` (R84): the bytes written since power-up as (offset, byte) pairs. An offset that is not listed holds its
power-up value (R301), see `State.readByte`. -/
abbrev Memory := List Host.Cell

/-- The canonical form of `DMEM`: offsets strictly rising, and below `DMEM_BYTES`. An unlisted offset has no written value,
so no entry can equal it. -/
abbrev Memory.wf (bytes : Nat) (m : Memory) : Prop :=
  m.Pairwise (fun x y => x.1 < y.1) ∧ ∀ c ∈ m, c.1 < bytes

/-- A bus access of the host (R82, R125): its direction, its width in bits, its bus address and, for a write, its datum
(an 8-bit datum is the low byte). The shapes that the bus refuses can be written down too. -/
inductive Access where
  | read  (width addr : Nat)
  | write (width addr : Nat) (value : Word)
  deriving DecidableEq, Repr

/-- What can happen next, and who does it: the host performs an access, the engine takes its turn, or the platform asserts
or releases reset (R80, R90, R300). DESIGN CHOICE, notes/assumptions/5.md: their order is a list in State (safe over all
states). -/
inductive Event where
  | host (a : Access)
  | engine
  | assertReset
  | releaseReset
  deriving DecidableEq, Repr

/-- The bus's answer to the last access performed. -/
inductive Response where
  /-- No access has been performed since reset. -/
  | none
  /-- A read, with its data; an 8-bit datum is zero-extended. -/
  | read (v : Word)
  /-- A write that the bus accepted. -/
  | wrote
  /-- A refused access shape (R82). -/
  | busError
  /-- The address lies outside the engine's window. -/
  | notSelected
  deriving DecidableEq, Repr

/-- The read data of a response: 0 unless a read was served (R82: a refused access returns read data 0). -/
def Response.readData : Response → Word
  | .read v => v
  | .none | .wrote | .busError | .notSelected => 0

/-- The engine's state (R30) with its configuration, its pending inputs and the bus's last answer. -/
@[ext]
structure State where
  /-- `DMEM_BYTES` and `BASE` (R8); no step changes it. -/
  cfg : Config
  /-- The reset input is asserted (R300). -/
  inReset : Bool
  /-- `CTRL.IE` (R34). -/
  ie : Bool
  /-- `STATUS.DONE` (R35). -/
  done : Bool
  /-- `STATUS.IGN` (R35). -/
  ign : Bool
  /-- `STATUS.ERR` (R35, R260). -/
  err : ErrCode
  /-- `SRC` (R36). -/
  src : Word
  /-- `DST` (R37). -/
  dst : Word
  /-- `LEN` (R38). -/
  len : Word
  /-- `CURSOR.CUR` (R39). -/
  cur : BitVec 8
  /-- `KEY0` to `KEY7` (R41). -/
  key : Vector Word 8
  /-- `IV0` to `IV7` (R42). -/
  iv : Vector Word 8
  /-- `EKS[0..60)` (R50). -/
  eks : Schedule
  /-- `DKS[0..60)` (R51). -/
  dks : Schedule
  /-- `EKS_VALID`, seen as `STATUS.EKSV` (R52). -/
  eksValid : Bool
  /-- `DKS_VALID`, seen as `STATUS.DKSV` (R52). -/
  dksValid : Bool
  /-- `PHASE`; `STATUS.BUSY` is `PHASE = RUN` (R53). -/
  phase : Phase
  /-- The latched command (R54). -/
  latch : Latch
  /-- The working registers (R55). -/
  work : Work
  /-- `DMEM` (R84). -/
  dmem : Memory
  /-- The inputs still to come, oldest first. -/
  events : List Event
  /-- The bus's answer to the last access performed. -/
  resp : Response
  /-- How many free values have been drawn. -/
  draws : Nat
  deriving DecidableEq, Repr

/-- Why a step stops with a fault. -/
inductive Fault where
  /-- Raised by the completion of any command when the latched operands are such that validation would have refused them
  (R13, R263), so that no acceptance could have latched them. Safe: the machine stops, in states that no run from reset
  reaches. DESIGN CHOICE, notes/assumptions/7.md. -/
  | latchNotValidated
  deriving DecidableEq, Repr

/-- Why an instruction is refused. -/
inductive Refusal where
  /-- An instruction without a meaning in this model. No arm of `exec` raises it. Safe: the machine stops. -/
  | notModelled (mnemonic : String)
  deriving DecidableEq, Repr

/-- The latches at reset: the spec leaves them unspecified (R60); no rule reads one before acceptance writes it (R54). -/
def Latch.reset : Latch :=
  { op := .kse, src := 0, dst := 0, n := 0, cur := 0, k := default, iv := default }

/-- The working registers at reset: unspecified in the spec (R60); no rule reads one before the command writes it (R55). -/
def Work.reset : Work :=
  { s := default, rc := 0, bi := 0, x := default, y := default, cv := default, ks := default }

/-- The state right after power-up and reset release (R60, R300, R310), with the spec's default `DMEM_BYTES` (R8). `BASE`, the
schedules, the latches and the working registers are the model's choice: DESIGN CHOICE, notes/assumptions/1.md (unsafe) and
notes/assumptions/3.md (unsafe). -/
def State.reset : State where
  cfg := { dmemBytes := 4096, base := 0 }
  inReset := false
  ie := false
  done := false
  ign := false
  err := .ok
  src := 0
  dst := 0
  len := 0
  cur := 0
  key := Vector.replicate 8 0
  iv := Vector.replicate 8 0
  eks := Vector.replicate 60 0
  dks := Vector.replicate 60 0
  eksValid := false
  dksValid := false
  phase := .idle
  latch := Latch.reset
  work := Work.reset
  dmem := []
  events := []
  resp := .none
  draws := 0

end Sys2Proof.Machine
end

