-- ==== Sys2Proof/Machine/Ops.lean ====
section
/-!
DEFINITION. The named operations on memory and registers, error completion (the engine's one form of exception, 60_exceptions.md
R272), acceptance's latching (30_encoding.md R115), completion (R116) and the reset input (70_reset_and_hazards.md R300, R301).
-/

namespace Sys2Proof.Machine

/-! ### DMEM -/

/-- The byte written at offset `a`, if one has been. -/
def Memory.get? : Memory → Nat → Option Byte
  | [], _ => none
  | (k, v) :: m, a => if k = a then some v else Memory.get? m a

/-- `m` with byte `b` at offset `a`, in canonical form. -/
def Memory.set : Memory → Nat → Byte → Memory
  | [], a, b => [(a, b)]
  | (k, v) :: m, a, b =>
    if a < k then (a, b) :: (k, v) :: m
    else if a = k then (a, b) :: m
    else (k, v) :: Memory.set m a b

/-- `DMEM[a]`: the byte written there, or the power-up value (R84, R301), a free value of its offset. DESIGN CHOICE,
notes/assumptions/2.md (safe). -/
def State.readByte (s : State) (a : Nat) : Byte :=
  (Memory.get? s.dmem a).getD (Config.powerUpByte a)

/-- `m` with the bytes `bs` from offset `a` on; only offsets below `bytes` exist. -/
def Memory.store (bytes : Nat) : Memory → Nat → List Byte → Memory
  | m, _, [] => m
  | m, a, b :: bs => Memory.store bytes (if a < bytes then Memory.set m a b else m) (a + 1) bs

/-- `MemWrite(a, n, B)` (R13): `DMEM[a+i] <- B[i]`. Only offsets below `DMEM_BYTES` exist (R84). -/
def State.writeBytes (s : State) (a : Nat) (bs : List Byte) : State :=
  { s with dmem := Memory.store s.cfg.dmemBytes s.dmem a bs }

/-- `DMEM[a] <- b`. -/
def State.writeByte (s : State) (a : Nat) (b : Byte) : State :=
  s.writeBytes a [b]

/-- `MemRead(a, 4)` (R13). -/
def State.readColumn (s : State) (a : Nat) : Column :=
  columnOf fun j => s.readByte (a + j)

/-- `MemWrite(a, 4, c)` (R13). -/
def State.writeColumn (s : State) (a : Nat) (c : Column) : State :=
  s.writeBytes a (columnBytes c)

/-- `MemRead(a, 16)` (R13). -/
def State.readBlock (s : State) (a : Nat) : Block :=
  blockOf fun j => s.readByte (a + j)

/-- `MemWrite(a, 16, b)` (R13). -/
def State.writeBlock (s : State) (a : Nat) (b : Block) : State :=
  s.writeBytes a (blockBytes b)

/-! ### Registers -/

/-- `SetIV16(B)` (R42). -/
def State.setIv16 (s : State) (b : Block) : State :=
  { s with iv := setLow16 s.iv b }

/-- `CURSOR.CUR <- c` (R39). -/
def State.setCur (s : State) (c : BitVec 8) : State :=
  { s with cur := c }

/-- `EKS <- W`, which sets `EKS_VALID` at the same time (R52, R153). -/
def State.setEks (s : State) (w : Schedule) : State :=
  { s with eks := w, eksValid := true }

/-- `DKS <- D`, which sets `DKS_VALID` at the same time (R52, R154). -/
def State.setDks (s : State) (w : Schedule) : State :=
  { s with dks := w, dksValid := true }

/-- New contents of the working registers (R55). -/
def State.setWork (s : State) (w : Work) : State :=
  { s with work := w }

/-- An ignored write sets `STATUS.IGN` (R276). -/
def State.setIgn (s : State) : State :=
  { s with ign := true }

/-- The bus's answer to an access. -/
def State.respond (s : State) (r : Response) : State :=
  { s with resp := r }

/-- One more free value has been drawn. -/
def State.drawn (s : State) : State :=
  { s with draws := s.draws + 1 }

/-- The rest of the inputs, after the first one has been taken. -/
def State.popEvent (s : State) : State :=
  { s with events := s.events.tail }

/-! ### The life of a command -/

/-- Acceptance clears `DONE` and `ERR`, not `IGN` (R114). -/
def State.clearCompletion (s : State) : State :=
  { s with done := false, err := .ok }

/-- `raise Error(code)`: error completion (R14, R272). It is the engine's one exception; it saves nothing and goes nowhere
(R274), so nothing returns from it (R275). -/
def State.raiseError (s : State) (code : ErrCode) : State :=
  { s with err := code, done := true }

/-- The latched operands of a command whose byte count is `n` (R54, R115). -/
def State.operands (s : State) (i : Instr) (n : Nat) : Latch :=
  { op := i, src := s.src, dst := s.dst, n := BitVec.ofNat 32 n, cur := s.cur,
    k := registerBytes s.key, iv := registerBytes s.iv }

/-- `Start(v)`: latch the operands and enter `RUN` (R115). -/
def State.start (s : State) (i : Instr) (n : Nat) : State :=
  { s with latch := s.operands i n, phase := .run }

/-- Latches and working registers become unspecified between commands (R55, R60, U9). DESIGN CHOICE: free values,
notes/assumptions/4.md (safe within one run). -/
def State.forget (s : State) : State :=
  { s with latch := Config.freeLatch s.draws, work := Config.freeWork s.draws, draws := s.draws + 1 }

/-- Completion of a running command: `PHASE <- IDLE` and `STATUS.DONE <- 1`, after the body (R116). -/
def State.complete (s : State) : State :=
  { s.forget with phase := .idle, done := true }

/-! ### Loops over the blocks or bytes of a command -/

/-- `n` passes of `body`. -/
def repeatBody (body : State → State) : Nat → State → State
  | 0, s => s
  | n + 1, s => repeatBody body n (body s)

/-- `S <- EncryptBlock(b, EKS)`, after round 14 (R55, R155). -/
def State.encryptInto (s : State) (b : Block) : State :=
  s.setWork { s.work with s := encryptBlock b s.eks, rc := 14 }

/-- `S <- DecryptBlock(b, DKS)`, after round 14 (R55, R156). -/
def State.decryptInto (s : State) (b : Block) : State :=
  s.setWork { s.work with s := decryptBlock b s.dks, rc := 14 }

/-! ### The reset input -/

/-- The bytes `a` to `a + n - 1` of DMEM become unspecified, each for itself (R301). DESIGN CHOICE: free values,
notes/assumptions/4.md (safe within one run). -/
def State.scramble : Nat → Nat → State → State
  | _, 0, s => s
  | a, n + 1, s => State.scramble (a + 1) n ((s.writeByte a (Config.freeByte s.draws)).drawn)

/-- DMEM at a reset: unchanged while idle; while a command runs, its destination range becomes unspecified (R301). -/
def State.abandon (s : State) : State :=
  match s.phase with
  | .idle => s
  | .run => State.scramble s.latch.dst.toNat s.latch.n.toNat s

/-- Every register at its reset value (R60); `EKS`, `DKS`, latches and working registers unspecified. -/
def State.resetRegisters (s : State) : State :=
  ({ s with
      ie := false, done := false, ign := false, err := .ok
      src := 0, dst := 0, len := 0, cur := 0
      key := Vector.replicate 8 0, iv := Vector.replicate 8 0
      eks := Config.freeSchedule s.draws, dks := Config.freeSchedule (s.draws + 1)
      eksValid := false, dksValid := false
      phase := .idle, resp := .none, draws := s.draws + 2 } : State).forget

/-- Reset is asserted (R300): a running command is abandoned and every register takes its reset value. -/
def State.assertReset (s : State) : State :=
  { s.abandon.resetRegisters with inReset := true }

/-- Reset is released (R300): the registers hold their reset values and the engine is idle. -/
def State.releaseReset (s : State) : State :=
  { s with inReset := false }

end Sys2Proof.Machine
end

