-- ==== Sys2Proof/Machine/Flags.lean ====
section
/-!
DEFINITION. The status flags and the words software reads them in: the error codes (60_exceptions.md R260), `STATUS` and `CTRL`
(10_state.md R34, R35), the interrupt output (R280), and the writes to `STATUS` and `CTRL`.
-/

namespace Sys2Proof.Machine

/-- The numeric error codes (R260). -/
def ErrCode.code : ErrCode → BitVec 4
  | .ok => 0
  | .invalidLength => 1
  | .invalidState => 2
  | .illegalCmd => 3
  | .range => 4
  | .overlap => 5
  | .noSchedule => 6

/-- One bit as a bit vector. -/
def flagBit (b : Bool) : BitVec 1 :=
  if b then 1 else 0

/-- `STATUS.BUSY`: 1 exactly when `PHASE = RUN` (R53). -/
def State.busy (s : State) : Bool :=
  s.phase == .run

/-- `STATUS` as a read returns it (R35): bits 31:10 zero, `DKSV`, `EKSV`, `ERR`, bit 3 zero, `IGN`, `DONE`, `BUSY`. -/
def State.statusWord (s : State) : Word :=
  (0 : BitVec 22) ++ flagBit s.dksValid ++ flagBit s.eksValid ++ s.err.code ++ (0 : BitVec 1) ++ flagBit s.ign ++
    flagBit s.done ++ flagBit s.busy

/-- `CTRL` as a read returns it (R34): bits 31:1 zero, then `IE`. -/
def State.ctrlWord (s : State) : Word :=
  (0 : BitVec 31) ++ flagBit s.ie

/-- `IRQ = CTRL.IE & STATUS.DONE` (R280). -/
def State.irq (s : State) : Bool :=
  s.ie && s.done

/-- A write to `STATUS` clears `DONE` and `IGN` where the written bit is 1, and nothing else (R35). -/
def State.writeStatus (s : State) (v : Word) : State :=
  { s with done := s.done && !v.getLsbD 1, ign := s.ign && !v.getLsbD 2 }

/-- A write to `CTRL` stores bit 0 into `IE` (R34). -/
def State.writeCtrl (s : State) (v : Word) : State :=
  { s with ie := v.getLsbD 0 }

end Sys2Proof.Machine
end

