-- ==== Sys2Proof/Machine/Validate.lean ====
section
/-!
DEFINITION. Validation of a command at acceptance (60_exceptions.md R263 to R271), acceptance itself (30_encoding.md R114) and the
frame that every command's meaning has: acceptance while idle, the body and completion while running (R114 to R116).
-/

namespace Sys2Proof.Machine

/-- `MODES` of R263: the mode commands. -/
def isMode : Instr → Bool
  | .cbce | .cbcd | .ctr | .igee | .iged => true
  | .kse | .ksd | .encb | .decb => false

/-- The commands that move data: all but KSE and KSD (R111, R263). -/
def movesData : Instr → Bool
  | .kse | .ksd => false
  | .encb | .decb | .cbce | .cbcd | .ctr | .igee | .iged => true

/-- `N`, the byte count of a command (R111, R115). -/
def byteCount (i : Instr) (len : Nat) : Nat :=
  match i with
  | .kse | .ksd => 0
  | .encb | .decb => 16
  | .cbce | .cbcd | .ctr | .igee | .iged => len

/-- The checks of `Validate` that look at the operands, in order (R263, R265 to R268). Sums are exact, since all numbers are
natural numbers (R267). -/
def validateOperands (i : Instr) (dmemBytes src dst len cur : Nat) : ErrCode :=
  let n := byteCount i len
  if isMode i = true ∧ len = 0 then .invalidLength
  else if isMode i = true ∧ i ≠ .ctr ∧ len % 16 ≠ 0 then .invalidLength
  else if i = .ctr ∧ 16 ≤ cur then .invalidState
  else if movesData i = true ∧ (dmemBytes < src + n ∨ dmemBytes < dst + n) then .range
  else if movesData i = true ∧ src ≠ dst ∧ src < dst + n ∧ dst < src + n then .overlap
  else .ok

/-- The last check of `Validate`: ENCB and DECB need their schedule (R263, R269). -/
def validateSchedule (i : Instr) (eksValid dksValid : Bool) : ErrCode :=
  if i = .encb ∧ eksValid = false then .noSchedule
  else if i = .decb ∧ dksValid = false then .noSchedule
  else .ok

/-- `Validate` for a word that decodes to `i`: the first failing check, or `ok` (R263, R271). -/
def State.validate (s : State) (i : Instr) : ErrCode :=
  match validateOperands i s.cfg.dmemBytes s.src.toNat s.dst.toNat s.len.toNat s.cur.toNat with
  | .ok => validateSchedule i s.eksValid s.dksValid
  | e => e

/-- Acceptance of a command while idle (R114): `DONE` and `ERR` are cleared, then error completion or `Start`. -/
def State.accept (s : State) (i : Instr) : State :=
  match s.validate i with
  | .ok => s.clearCompletion.start i (byteCount i s.len.toNat)
  | e => s.clearCompletion.raiseError e

/-- The latched operands are ones that validation lets pass (R13, R54). -/
def State.latchValid (s : State) (i : Instr) : Bool :=
  validateOperands i s.cfg.dmemBytes s.latch.src.toNat s.latch.dst.toNat s.latch.n.toNat s.latch.cur.toNat == .ok

/-- One transition of command `i` with body `body`: while idle its acceptance (R114, R115), while running its completion, in
which every write of the body takes effect (R90, R116). A running command's operands have been validated (R13). DESIGN CHOICE:
the body is one transition, as R56 allows, notes/assumptions/9.md (safe). -/
def runCommand (i : Instr) (body : State → State) (s : State) : Host.Outcome State Fault Refusal :=
  match s.phase with
  | .idle => .next (s.accept i)
  | .run => if s.latchValid i then .next (body s).complete else .fault .latchNotValidated

end Sys2Proof.Machine
end

