-- ==== Sys2Proof/Machine/Bus.lean ====
section
/-!
DEFINITION. The host's bus accesses (20_memory.md R81 to R89, 10_state.md R31 to R42), the `CMD` write port (30_encoding.md R114),
and which agent acts next. Everything but running a command is settled here; Machine/Step.lean only runs the command that
an action names.
-/

namespace Sys2Proof.Machine

/-- What stands at an offset of the window (R31, R81). -/
inductive Port where
  | id | ctrl | status | cmd | src | dst | len | cursor
  | key (k : Fin 8)
  | iv (k : Fin 8)
  | reserved
  /-- Offset `0x10000 + a`. -/
  | dmem (a : Nat)
  deriving DecidableEq, Repr

/-- What one step is to do: nothing beyond the state given, or one transition of a command from it. -/
inductive Action where
  | stay (s : State)
  | run (i : Instr) (s : State)
  deriving DecidableEq, Repr

/-- The register map (R31) and the window's regions (R81), for a 4-byte aligned offset. -/
def portOf (off : Nat) : Port :=
  if off = 0x000 then .id
  else if off = 0x004 then .ctrl
  else if off = 0x008 then .status
  else if off = 0x00C then .cmd
  else if off = 0x010 then .src
  else if off = 0x014 then .dst
  else if off = 0x018 then .len
  else if off = 0x01C then .cursor
  else if off < 0x040 then .key (Fin.ofNat 8 ((off - 0x020) / 4))
  else if off < 0x060 then .iv (Fin.ofNat 8 ((off - 0x040) / 4))
  else if off < 0x10000 then .reserved
  else .dmem (off - 0x10000)

/-- The offset of a bus address in the engine's 128 KiB window (R81), or none outside it. -/
def windowOffset (c : Config) (addr : Nat) : Option Nat :=
  if c.base ≤ addr ∧ addr < c.base + 0x20000 then some (addr - c.base) else none

/-- The access shapes the bus performs: 32-bit aligned anywhere, 8-bit in the DMEM window (R82). -/
def shapeAccepted (width off : Nat) : Bool :=
  (width == 32 && off % 4 == 0) || (width == 8 && decide (0x10000 ≤ off))

/-- Reads of these return an unspecified value while a command runs (R32, R89). -/
def Port.unspecifiedWhileBusy : Port → Bool
  | .iv _ | .cursor | .dmem _ => true
  | .id | .ctrl | .status | .cmd | .src | .dst | .len | .key _ | .reserved => false

/-- The value of a 32-bit read (R33 to R42, R83, R85). -/
def State.portValue (s : State) : Port → Word
  | .id => 0x41455301
  | .ctrl => s.ctrlWord
  | .status => s.statusWord
  | .cmd => 0
  | .src => s.src
  | .dst => s.dst
  | .len => s.len
  | .cursor => (0 : BitVec 24) ++ s.cur
  | .key _ => 0
  | .iv k => s.iv[k]
  | .reserved => 0
  | .dmem a => if a < s.cfg.dmemBytes then be32 (s.readColumn a) else 0

/-- A read that returns an unspecified value. DESIGN CHOICE: a free value, notes/assumptions/4.md (safe within one run). -/
def State.respondFree (s : State) (v : Word) : State :=
  (s.respond (.read v)).drawn

/-- `Read32` (R82, R85, R89). -/
def State.read32 (s : State) (off : Nat) : State :=
  if s.busy && (portOf off).unspecifiedWhileBusy then s.respondFree (Config.freeWord s.draws)
  else s.respond (.read (s.portValue (portOf off)))

/-- `Read8` of the DMEM window (R85, R89). -/
def State.read8 (s : State) (off : Nat) : State :=
  if s.busy then s.respondFree ((Config.freeByte s.draws).setWidth 32)
  else if off - 0x10000 < s.cfg.dmemBytes then s.respond (.read ((s.readByte (off - 0x10000)).setWidth 32))
  else s.respond (.read 0)

/-- A 32-bit write while idle, to any port but `CMD` (R33 to R42, R83, R85). A DMEM word lies wholly inside DMEM or wholly
outside it. -/
def State.writePort (s : State) (v : Word) : Port → State
  | .id | .cmd | .reserved => s
  | .ctrl => s.writeCtrl v
  | .status => s.writeStatus v
  | .src => { s with src := v }
  | .dst => { s with dst := v }
  | .len => { s with len := v }
  | .cursor => s.setCur (v.extractLsb' 0 8)
  | .key k => { s with key := s.key.set k v }
  | .iv k => { s with iv := s.iv.set k v }
  | .dmem a => if a < s.cfg.dmemBytes then s.writeColumn a (bytes32 v) else s

/-- A word written to `CMD` while idle (R114): a legal word is a command in hand; an illegal one fails validation with
`ILLEGAL_CMD`, after acceptance has cleared `DONE` and `ERR` (R113, R264). -/
def State.submit (s : State) (v : Word) : Action :=
  match decode v with
  | .ok i => .run i s
  | .error _ => .stay (s.clearCompletion.raiseError .illegalCmd)

/-- `Write32` (R82): to `STATUS` at any time; anything else is ignored and sets `IGN` while a command runs (R32, R276). -/
def State.write32 (s : State) (off : Nat) (v : Word) : Action :=
  if portOf off = .status then .stay (s.writeStatus v)
  else if s.busy then .stay s.setIgn
  else if portOf off = .cmd then s.submit v
  else .stay (s.writePort v (portOf off))

/-- `Write8` to the DMEM window (R85, R89). -/
def State.write8 (s : State) (off : Nat) (b : Byte) : State :=
  if s.busy then s.setIgn else s.writeByte (off - 0x10000) b

/-- An access that the bus delivers while reset is asserted: no effect, any read data (R300). DESIGN CHOICE: how it is answered,
notes/assumptions/5.md (unsafe for a claim on the answer to a write). -/
def State.accessInReset (s : State) : Access → State
  | .read 8 _ => s.respondFree ((Config.freeByte s.draws).setWidth 32)
  | .read _ _ => s.respondFree (Config.freeWord s.draws)
  | .write _ _ _ => s.respond .wrote

/-- An access at an offset of the window (R82). A refused shape has no effect at all (R262). -/
def State.accessAt (s : State) (off : Nat) : Access → Action
  | .read w _ =>
    if shapeAccepted w off then .stay (if w = 32 then s.read32 off else s.read8 off)
    else .stay (s.respond .busError)
  | .write w _ v =>
    if shapeAccepted w off then
      if w = 32 then (s.respond .wrote).write32 off v
      else .stay ((s.respond .wrote).write8 off (v.extractLsb' 0 8))
    else .stay (s.respond .busError)

/-- The bus address of an access. -/
def Access.addr : Access → Nat
  | .read _ a => a
  | .write _ a _ => a

/-- A host access (R81, R82): outside the window it is not the engine's. -/
def State.hostAccess (s : State) (a : Access) : Action :=
  match windowOffset s.cfg a.addr with
  | none => .stay (s.respond .notSelected)
  | some off => if s.inReset then .stay (s.accessInReset a) else s.accessAt off a

/-- The engine's turn: a running command completes (R116); an idle engine keeps its state (R295). -/
def State.engineTurn (s : State) : Action :=
  match s.phase with
  | .idle => .stay s
  | .run => .run s.latch.op s

/-- What happens next: the oldest input, or the engine's own turn when none is left (R90, R282, R308). DESIGN CHOICE,
notes/assumptions/5.md (safe over all states). -/
def State.nextAction (s : State) : Action :=
  match s.events with
  | [] => s.engineTurn
  | .engine :: _ => s.popEvent.engineTurn
  | .host a :: _ => s.popEvent.hostAccess a
  | .assertReset :: _ => .stay s.popEvent.assertReset
  | .releaseReset :: _ => .stay s.popEvent.releaseReset

end Sys2Proof.Machine
end

