-- ==== Sys2Proof/Machine/BlockCommands.lean ====
section
/-!
DEFINITION. The block commands ENCB and DECB (40_cipher_core.md R162, R163).
-/

namespace Sys2Proof.Machine

/-- The body of `ENCB` (R162). -/
def bodyEncb (s : State) : State :=
  let t := s.encryptInto (s.readBlock s.latch.src.toNat)
  t.writeBlock s.latch.dst.toNat t.work.s

/-- The body of `DECB` (R163). -/
def bodyDecb (s : State) : State :=
  let t := s.decryptInto (s.readBlock s.latch.src.toNat)
  t.writeBlock s.latch.dst.toNat t.work.s

/-- `ENCB` (R162). -/
def execEncb (s : State) : Host.Outcome State Fault Refusal :=
  runCommand .encb bodyEncb s

/-- `DECB` (R163). -/
def execDecb (s : State) : Host.Outcome State Fault Refusal :=
  runCommand .decb bodyDecb s

end Sys2Proof.Machine
end

