-- ==== Sys2Proof/Machine/Schedules.lean ====
section
/-!
DEFINITION. The key schedule commands KSE and KSD (40_cipher_core.md R160, R161).
-/

namespace Sys2Proof.Machine

/-- `EKS <- ExpandKey(K_L)` (R153, R160). -/
def deriveEks (s : State) : State :=
  s.setEks (expandKey s.latch.k)

/-- `DKS <- ExpandDecKey(K_L)` (R154, R161). -/
def deriveDks (s : State) : State :=
  s.setDks (expandDecKey s.latch.k)

/-- `KSE` (R160). -/
def execKse (s : State) : Host.Outcome State Fault Refusal :=
  runCommand .kse deriveEks s

/-- `KSD` (R161). -/
def execKsd (s : State) : Host.Outcome State Fault Refusal :=
  runCommand .ksd deriveDks s

end Sys2Proof.Machine
end

