-- ==== Sys2Proof/Machine/Cbc.lean ====
section
/-!
DEFINITION. The CBC chainer: CBCE and CBCD (41_cbc.md R200, R201).
-/

namespace Sys2Proof.Machine

/-- `CV <- IV_L[0..16)`, block index 0. -/
def cbcInit (s : State) : State :=
  s.setWork { s.work with cv := s.latch.iv.lo, bi := 0 }

/-- The end of a block: `CV` takes the chaining value and the block index moves on. -/
def cbcNext (s : State) (cv : Block) : State :=
  s.setWork { s.work with cv := cv, bi := s.work.bi + 1 }

/-- One block of the loop of R200. -/
def cbcEncBlock (s : State) : State :=
  let p := s.readBlock (s.latch.src.toNat + 16 * s.work.bi)
  let t := s.encryptInto (xorBlock p s.work.cv)
  cbcNext (t.writeBlock (s.latch.dst.toNat + 16 * s.work.bi) t.work.s) t.work.s

/-- One block of the loop of R201: the raw ciphertext block is saved before it is decrypted. -/
def cbcDecBlock (s : State) : State :=
  let c := s.readBlock (s.latch.src.toNat + 16 * s.work.bi)
  let t := s.decryptInto c
  cbcNext (t.writeBlock (s.latch.dst.toNat + 16 * s.work.bi) (xorBlock t.work.s s.work.cv)) c

/-- The body of `CBCE` (R200). -/
def bodyCbce (s : State) : State :=
  let t := repeatBody cbcEncBlock (s.latch.n.toNat / 16) (cbcInit (deriveEks s))
  t.setIv16 t.work.cv

/-- The body of `CBCD` (R201). -/
def bodyCbcd (s : State) : State :=
  let t := repeatBody cbcDecBlock (s.latch.n.toNat / 16) (cbcInit (deriveDks s))
  t.setIv16 t.work.cv

/-- `CBCE` (R200). -/
def execCbce (s : State) : Host.Outcome State Fault Refusal :=
  runCommand .cbce bodyCbce s

/-- `CBCD` (R201). -/
def execCbcd (s : State) : Host.Outcome State Fault Refusal :=
  runCommand .cbcd bodyCbcd s

end Sys2Proof.Machine
end

