-- ==== Sys2Proof/Machine/Ctr.lean ====
section
/-!
DEFINITION. The CTR keystream generator and the command CTR (42_ctr.md R220 to R222).
-/

namespace Sys2Proof.Machine

/-- The loop of R220 on the bytes from `V[15]` upward in significance: it stops at the first byte that does not wrap to 0. -/
def incBytes : List Byte → List Byte
  | [] => []
  | b :: bs => if b + 1 ≠ 0 then (b + 1) :: bs else (b + 1) :: incBytes bs

/-- `Inc128(V)` (R220). -/
def inc128 (v : Block) : Block :=
  blockOf fun j => (incBytes (blockBytes v).reverse).reverse.getD j 0

/-- `KS <- EncryptBlock(CV, EKS)`: the keystream block of the counter (R221). -/
def ctrKeystream (s : State) : State :=
  let t := s.encryptInto s.work.cv
  t.setWork { t.work with ks := t.work.s }

/-- `CV <- IV_L[0..16)` and its keystream block (R222). -/
def ctrInit (s : State) : State :=
  ctrKeystream (s.setWork { s.work with cv := s.latch.iv.lo, bi := 0 })

/-- The keystream block is used up: `CV <- Inc128(CV)` and the next keystream block (R222). -/
def ctrRefill (s : State) : State :=
  ctrKeystream (s.setWork { s.work with cv := inc128 s.work.cv, bi := s.work.bi + 1 })

/-- Data byte `i` is exclusive-ored with `KS[c]` (R222). -/
def ctrByte (i c : Nat) (s : State) : State :=
  s.writeByte (s.latch.dst.toNat + i) (s.readByte (s.latch.src.toNat + i) ^^^ blockByte s.work.ks c)

/-- The loop of R222 over `n` more bytes, the first of them byte `i` with cursor `c`; at its end the counter and the cursor
are written back. -/
def ctrLoop : Nat → Nat → Nat → State → State
  | 0, _, c, s => (s.setIv16 s.work.cv).setCur (BitVec.ofNat 8 c)
  | n + 1, i, c, s =>
    if c + 1 = 16 then ctrLoop n (i + 1) 0 (ctrRefill (ctrByte i c s))
    else ctrLoop n (i + 1) (c + 1) (ctrByte i c s)

/-- The body of `CTR` (R222). -/
def bodyCtr (s : State) : State :=
  ctrLoop s.latch.n.toNat 0 s.latch.cur.toNat (ctrInit (deriveEks s))

/-- `CTR` (R222). -/
def execCtr (s : State) : Host.Outcome State Fault Refusal :=
  runCommand .ctr bodyCtr s

end Sys2Proof.Machine
end

