-- ==== Sys2Proof/Machine/Ige.lean ====
section
/-!
DEFINITION. The IGE chainer: IGEE and IGED (43_ige.md R240 to R243).
-/

namespace Sys2Proof.Machine

/-- `X <- X0; Y <- Y0` (R240), block index 0. -/
def igeInit (x y : Block) (s : State) : State :=
  s.setWork { s.work with x := x, y := y, bi := 0 }

/-- One block of `IGEChain` (R240); `transform` leaves `F(buffer)` in the AES state `S`. -/
def igeBlock (transform : State → Block → State) (s : State) : State :=
  let chunk := s.readBlock (s.latch.src.toNat + 16 * s.work.bi)
  let t := transform s (xorBlock chunk s.work.x)
  let out := xorBlock t.work.s s.work.y
  let u := t.writeBlock (s.latch.dst.toNat + 16 * s.work.bi) out
  u.setWork { u.work with x := out, y := chunk, bi := s.work.bi + 1 }

/-- The body of `IGEE`: `X` starts as IV bytes 0..15 and `Y` as bytes 16..31 (R241). -/
def bodyIgee (s : State) : State :=
  repeatBody (igeBlock State.encryptInto) (s.latch.n.toNat / 16) (igeInit s.latch.iv.lo s.latch.iv.hi (deriveEks s))

/-- The body of `IGED`: the halves of the IV swap their parts (R242). -/
def bodyIged (s : State) : State :=
  repeatBody (igeBlock State.decryptInto) (s.latch.n.toNat / 16) (igeInit s.latch.iv.hi s.latch.iv.lo (deriveDks s))

/-- `IGEE` (R241). -/
def execIgee (s : State) : Host.Outcome State Fault Refusal :=
  runCommand .igee bodyIgee s

/-- `IGED` (R242). -/
def execIged (s : State) : Host.Outcome State Fault Refusal :=
  runCommand .iged bodyIged s

end Sys2Proof.Machine
end

