-- ==== Sys2Proof/Machine/Dispatch.lean ====
section
/-!
DEFINITION. The meaning of every command (30_encoding.md R112), one direct call each. A command in hand makes one transition: its
acceptance while the engine is idle, its completion while the engine runs (R114 to R116).
-/

namespace Sys2Proof.Machine

def exec (i : Instr) (s : State) : Host.Outcome State Fault Refusal :=
  match i with
  | .kse => Sys2Proof.Machine.execKse s
  | .ksd => Sys2Proof.Machine.execKsd s
  | .encb => Sys2Proof.Machine.execEncb s
  | .decb => Sys2Proof.Machine.execDecb s
  | .cbce => Sys2Proof.Machine.execCbce s
  | .cbcd => Sys2Proof.Machine.execCbcd s
  | .ctr => Sys2Proof.Machine.execCtr s
  | .igee => Sys2Proof.Machine.execIgee s
  | .iged => Sys2Proof.Machine.execIged s

end Sys2Proof.Machine
end

