-- ==== Sys2Proof/Machine/Step.lean ====
section
/-!
DEFINITION. One step of the machine: the next action (Machine/Bus.lean), and the meaning of the command that it names, if any.
-/

namespace Sys2Proof.Machine

/-- One step: one host access, one completion or one reset edge (20_memory.md R90). -/
def step (s : State) : Host.Outcome State Fault Refusal :=
  match s.nextAction with
  | .stay t => .next t
  | .run i t => exec i t

/-- `s` with a command word as its very next input, written by the host to `CMD` while the engine is idle and out of reset: the
place the engine takes its instructions from (R93, R114). DEDUCED, notes/assumptions/8.md (safe). -/
def State.withFetchWord (s : State) (nbits w : Nat) : State :=
  { s with
    events := .host (.write 32 (s.cfg.base + 0x00C) (BitVec.ofNat 32 (w % 2 ^ nbits))) :: s.events
    phase := .idle
    inReset := false }

end Sys2Proof.Machine
end

