-- ==== Sys2Proof/Safety.lean ====
section
/-!
DEFINITION. What counts as a sound state and a safe run, and the reference functions that the claims compare commands with: the
chaining modes as functions on lists of blocks (20_memory.md R97: the output is a function of the input taken at acceptance),
counters as numbers (42_ctr.md R220), and the straightforward inverse cipher (40_cipher_core.md R157).
-/

namespace Sys2Proof.Machine

/-! ### Sound states -/

/-- Every register at the value R60 gives it. -/
abbrev State.registersReset (s : State) : Prop :=
  s.ie = false ∧ s.done = false ∧ s.ign = false ∧ s.err = .ok ∧ s.src = 0 ∧ s.dst = 0 ∧ s.len = 0 ∧ s.cur = 0 ∧
    s.key = Vector.replicate 8 0 ∧ s.iv = Vector.replicate 8 0 ∧ s.eksValid = false ∧ s.dksValid = false ∧
    s.phase = .idle

/-- A running command: not in reset, `DONE` and `ERR` zero (R35, R116), the latches equal to the registers they copy (R54), and
the checks of validation passed (R13, R263). -/
abbrev State.runSound (s : State) : Prop :=
  s.inReset = false ∧ s.done = false ∧ s.err = .ok ∧
    s.latch = s.operands s.latch.op (byteCount s.latch.op s.len.toNat) ∧
    s.latchValid s.latch.op = true ∧ validateSchedule s.latch.op s.eksValid s.dksValid = .ok

/-- The invariant of the machine: a legal configuration (R8), DMEM in canonical form within its size (R84), a running command
sound, and reset values while reset is asserted (R300). -/
abbrev State.Inv (s : State) : Prop :=
  s.cfg.legal ∧ Memory.wf s.cfg.dmemBytes s.dmem ∧ (s.phase = .run → s.runSound) ∧
    (s.inReset = true → s.registersReset)

/-! ### Relations between the states before and after a command -/

/-- Completion of a command that passed validation: idle, `DONE` set, `ERR` as it was (R116). -/
abbrev Completes (s t : State) : Prop :=
  t.phase = .idle ∧ t.done = true ∧ t.err = s.err

/-- What no command changes: the configuration, the reset input, `CTRL`, `IGN`, `SRC`, `DST`, `LEN`, `KEYk` (R34 to R41), the
inputs still to come and the bus's last answer. -/
abbrev KeepsControl (s t : State) : Prop :=
  t.cfg = s.cfg ∧ t.inReset = s.inReset ∧ t.ie = s.ie ∧ t.ign = s.ign ∧ t.src = s.src ∧ t.dst = s.dst ∧
    t.len = s.len ∧ t.key = s.key ∧ t.events = s.events ∧ t.resp = s.resp

/-- `IV4..IV7` are the same. -/
abbrev KeepsHighIv (s t : State) : Prop :=
  t.iv[4] = s.iv[4] ∧ t.iv[5] = s.iv[5] ∧ t.iv[6] = s.iv[6] ∧ t.iv[7] = s.iv[7]

/-- Every DMEM byte outside the `n` bytes from `a` on reads the same. -/
def SameOutside (a n : Nat) (s t : State) : Prop :=
  ∀ x, ¬ (a ≤ x ∧ x < a + n) → t.readByte x = s.readByte x

/-- Command `i` runs from `s` to its end `t`: accepted, then completed. -/
def Runs (i : Instr) (s t : State) : Prop :=
  ∃ u, exec i s = .next u ∧ u.phase = .run ∧ exec i u = .next t

/-- The states agree on everything but the secrets: the key, its latched copy, and the schedules derived from it (R41, R50,
R51). -/
def SameButSecrets (s t : State) : Prop :=
  t = { s with key := t.key, eks := t.eks, dks := t.dks, latch := { s.latch with k := t.latch.k } }

/-- The next step of `s` is the completion of its running command. -/
abbrev State.completesNext (s : State) : Prop :=
  s.phase = .run ∧ (s.events = [] ∨ s.events.head? = some .engine)

/-! ### Reference functions -/

/-- The `n` blocks of DMEM from offset `a` on. -/
def State.blocksAt (s : State) (a n : Nat) : List Block :=
  (List.range n).map fun i => s.readBlock (a + 16 * i)

/-- CBC encryption of a list of blocks (R200). -/
def cbcEncrypt (w : Schedule) : Block → List Block → List Block
  | _, [] => []
  | cv, p :: ps => encryptBlock (xorBlock p cv) w :: cbcEncrypt w (encryptBlock (xorBlock p cv) w) ps

/-- CBC decryption of a list of blocks (R201). -/
def cbcDecrypt (d : Schedule) : Block → List Block → List Block
  | _, [] => []
  | cv, c :: cs => xorBlock (decryptBlock c d) cv :: cbcDecrypt d c cs

/-- The chaining value that a list of ciphertext blocks leaves (R200, R201): its last block. -/
def lastBlock (iv : Block) (cs : List Block) : Block :=
  cs.getLast?.getD iv

/-- The IGE chain over a list of blocks with block transform `f` (R240). -/
def igeChain (f : Block → Block) : Block → Block → List Block → List Block
  | _, _, [] => []
  | x, y, b :: bs => xorBlock (f (xorBlock b x)) y :: igeChain f (xorBlock (f (xorBlock b x)) y) b bs

/-- `be128(V)`: a block as a 128-bit big-endian number (R220). -/
def be128 (v : Block) : Nat :=
  (blockBytes v).foldl (fun acc b => acc * 256 + b.toNat) 0

/-- The 16-byte big-endian form of a number modulo 2^128 (R223). -/
def block128 (n : Nat) : Block :=
  blockOf fun j => BitVec.ofNat 8 (n / 256 ^ (15 - j))

/-- Keystream byte `j` of a CTR stream from counter `v0` (R223): byte `j mod 16` of the block of the counter `v0 + j / 16`. -/
def ctrStreamByte (w : Schedule) (v0 : Nat) (j : Nat) : Byte :=
  blockByte (encryptBlock (block128 ((v0 + j / 16) % 2 ^ 128)) w) (j % 16)

/-- The AES state after the inverse rounds `13` down to `14 - n` of the straightforward inverse cipher. -/
def straightRounds (w : Schedule) : Nat → Block → Block
  | 0, s => s
  | n + 1, s => invMixColumns (addRoundKey (invSubBytes (invShiftRows (straightRounds w n s))) w (13 - n))

/-- The straightforward inverse cipher: inverse operations in reverse order against the encrypt schedule (R157). -/
def straightDecrypt (c : Block) (w : Schedule) : Block :=
  addRoundKey (invSubBytes (invShiftRows (straightRounds w 13 (addRoundKey c w 14)))) w 0

/-- The registers whose reads are defined at all times, with the value of each read (R32 to R41, R83). -/
def State.steadyReads (s : State) : List (Nat × Word) :=
  [(0x000, 0x41455301), (0x004, s.ctrlWord), (0x008, s.statusWord), (0x00C, 0), (0x010, s.src), (0x014, s.dst),
   (0x018, s.len), (0x020, 0), (0x024, 0), (0x028, 0), (0x02C, 0), (0x030, 0), (0x034, 0), (0x038, 0), (0x03C, 0)]

end Sys2Proof.Machine
end

