-- ==== Sys2Proof/Certificates/Slice0/Obligations.lean ====
section
/-!
DEFINITION. The statements for the provers. Each is a claim about the machine; its docstring names the rules of spec/ that it
formalises. Hypotheses are on the state and the operands alone. What the host, the engine and the platform do next is the state's own
list of inputs, oldest first, which is how the model writes down the order that the spec leaves open (notes/assumptions/5.md).
-/

open Sys2Proof Sys2Proof.Machine

/-! ### Command words and the step -/

/-- R110, R114: with a command word for `i` as the next input, idle and out of reset, `step` is `exec i`, after the input has been
taken and the write answered. -/
def Obligations.StepRunsSubmittedCommand : Prop :=
  ∀ (s : State) (v : Word) (i : Instr) (rest : List Event),
    s.inReset = false → s.phase = .idle → s.events = .host (.write 32 (s.cfg.base + 0x00C) v) :: rest →
    decode v = .ok i → step s = exec i { s with events := rest, resp := .wrote }

/-- R116, R308: on the engine's turn, or with no input left, a running command makes its second transition. -/
def Obligations.StepCompletesRunningCommand : Prop :=
  ∀ s : State, s.completesNext → step s = exec s.latch.op { s with events := s.events.tail }

/-- R112, R113: the nine words and a few of their illegal neighbours, written out. -/
def Obligations.CommandWordsDecode : Prop :=
  (decode 0x00000001 = .ok .kse ∧ decode 0x00000002 = .ok .ksd ∧ decode 0x00000003 = .ok .encb ∧
    decode 0x00000004 = .ok .decb ∧ decode 0x00000010 = .ok .cbce ∧ decode 0x00000011 = .ok .cbcd ∧
    decode 0x00000020 = .ok .ctr ∧ decode 0x00000030 = .ok .igee ∧ decode 0x00000031 = .ok .iged) ∧
  decode 0x00000000 = .error .opcodeNotAssigned ∧ decode 0x00000012 = .error .opcodeNotAssigned ∧
    decode 0x00000032 = .error .opcodeNotAssigned ∧ decode 0x00000110 = .error .reservedBitSet ∧
    decode 0x80000010 = .error .reservedBitSet

/-- R112: a word selects a command exactly when it is that command's word, all 32 bits of it, and the words are those of the
table. -/
def Obligations.DecodeSelectsExactWord : Prop :=
  (∀ (w : Word) (i : Instr), decode w = .ok i ↔ w = encode i) ∧
  encode .kse = 0x01 ∧ encode .ksd = 0x02 ∧ encode .encb = 0x03 ∧ encode .decb = 0x04 ∧ encode .cbce = 0x10 ∧
    encode .cbcd = 0x11 ∧ encode .ctr = 0x20 ∧ encode .igee = 0x30 ∧ encode .iged = 0x31

/-- R113, R264: any word with a reserved bit set or an opcode outside the nine completes at once with `ILLEGAL_CMD`, before every
other check, and changes nothing else. -/
def Obligations.IllegalWordFailsAtOnce : Prop :=
  ∀ (s : State) (v : Word) (rest : List Event),
    s.inReset = false → s.phase = .idle → s.events = .host (.write 32 (s.cfg.base + 0x00C) v) :: rest →
    (v.extractLsb' 8 24 ≠ 0 ∨
      v.extractLsb' 0 8 ∉ ([0x01, 0x02, 0x03, 0x04, 0x10, 0x11, 0x20, 0x30, 0x31] : List (BitVec 8))) →
    step s = .next { s with events := rest, resp := .wrote, err := .illegalCmd, done := true }

/-! ### Acceptance and validation -/

/-- R114, R115: a command that passes validation latches its operands and enters `RUN`, and `BUSY` reads 1. Byte `4k + j` of the latched
key and IV is bits `31-8j : 24-8j` of `KEYk` and `IVk` (R41, R42). -/
def Obligations.AcceptedCommandLatchesAndRuns : Prop :=
  ∀ (i : Instr) (s : State), s.phase = .idle → s.validate i = .ok →
    ∃ t, exec i s = .next t ∧ t.statusWord.getLsbD 0 = true ∧
      t = { s with
        done := false
        err := .ok
        phase := .run
        latch :=
          { op := i, src := s.src, dst := s.dst
            n := if i = .encb ∨ i = .decb then 16 else if i = .kse ∨ i = .ksd then 0 else s.len
            cur := s.cur, k := registerBytes s.key, iv := registerBytes s.iv } } ∧
      ∀ (k : Fin 8) (j : Nat), j < 4 →
        (blockBytes t.latch.k.lo ++ blockBytes t.latch.k.hi)[4 * k.val + j]? = some (s.key[k].extractLsb' (24 - 8 * j) 8) ∧
        (blockBytes t.latch.iv.lo ++ blockBytes t.latch.iv.hi)[4 * k.val + j]? = some (s.iv[k].extractLsb' (24 - 8 * j) 8)

/-- R272: a command word that fails validation, for its operands or as an illegal word, writes its code to `ERR`, sets `DONE`,
stays idle and changes nothing else. -/
def Obligations.FailedCommandChangesOnlyStatus : Prop :=
  (∀ (i : Instr) (s : State), s.phase = .idle → s.validate i ≠ .ok →
    exec i s = .next { s with err := s.validate i, done := true }) ∧
  (∀ (v : Word) (s : State), (∀ i, v ≠ encode i) →
    s.submit v = .stay { s with err := .illegalCmd, done := true })

/-- R265: `INVALID_LENGTH` exactly for a mode command with `LEN` = 0, or `LEN` no multiple of 16 in CBC and IGE. -/
def Obligations.InvalidLengthExactly : Prop :=
  ∀ (i : Instr) (s : State), s.validate i = .invalidLength ↔
    (i = .ctr ∧ s.len = 0) ∨
      ((i = .cbce ∨ i = .cbcd ∨ i = .igee ∨ i = .iged) ∧ (s.len = 0 ∨ s.len.toNat % 16 ≠ 0))

/-- R266, R263: `INVALID_STATE` exactly for CTR with a length and a cursor of 16 or more; the verdict on every other command does
not depend on the cursor. -/
def Obligations.InvalidStateExactly : Prop :=
  (∀ (i : Instr) (s : State), s.validate i = .invalidState ↔ i = .ctr ∧ s.len ≠ 0 ∧ 16 ≤ s.cur.toNat) ∧
  (∀ (i : Instr) (s : State) (c : BitVec 8), i ≠ .ctr → ({ s with cur := c } : State).validate i = s.validate i)

/-- R267, R263: `RANGE` exactly when a command that moves `N` bytes passes the earlier checks and one of its ranges, as an exact
sum, ends beyond `DMEM_BYTES`. -/
def Obligations.RangeExactly : Prop :=
  ∀ (i : Instr) (s : State), s.validate i = .range ↔
    (i ≠ .kse ∧ i ≠ .ksd) ∧ s.validate i ≠ .invalidLength ∧ s.validate i ≠ .invalidState ∧
      (s.cfg.dmemBytes < s.src.toNat + (if i = .encb ∨ i = .decb then 16 else s.len.toNat) ∨
        s.cfg.dmemBytes < s.dst.toNat + (if i = .encb ∨ i = .decb then 16 else s.len.toNat))

/-- R268, R263: `OVERLAP` exactly when both ranges lie inside DMEM, the earlier checks pass, and the ranges intersect without
being identical. -/
def Obligations.OverlapExactly : Prop :=
  ∀ (i : Instr) (s : State), s.validate i = .overlap ↔
    (i ≠ .kse ∧ i ≠ .ksd) ∧ s.validate i ≠ .invalidLength ∧ s.validate i ≠ .invalidState ∧ s.validate i ≠ .range ∧
      s.src ≠ s.dst ∧ ∃ a : Nat,
        (s.src.toNat ≤ a ∧ a < s.src.toNat + (if i = .encb ∨ i = .decb then 16 else s.len.toNat)) ∧
        (s.dst.toNat ≤ a ∧ a < s.dst.toNat + (if i = .encb ∨ i = .decb then 16 else s.len.toNat))

/-- R269, R263: `NO_SCHEDULE` exactly for ENCB without `EKS_VALID` or DECB without `DKS_VALID`, the range checks passed. -/
def Obligations.NoScheduleExactly : Prop :=
  ∀ (i : Instr) (s : State), s.validate i = .noSchedule ↔
    ((i = .encb ∧ s.eksValid = false) ∨ (i = .decb ∧ s.dksValid = false)) ∧
      s.src.toNat + 16 ≤ s.cfg.dmemBytes ∧ s.dst.toNat + 16 ≤ s.cfg.dmemBytes ∧
      (s.src = s.dst ∨ s.src.toNat + 16 ≤ s.dst.toNat ∨ s.dst.toNat + 16 ≤ s.src.toNat)

/-- R114, R115, R272: `STATUS` right after an idle `CMD` write of any word shows a running command or a failed validation, never
`BUSY` = 0 with `DONE` = 0. The spec derives this itself, 70_reset_and_hazards.md R306: 'It is never `BUSY = 0, DONE = 0`'.
Its third state, already completed, is what a read finds once the engine has had its turn. -/
def Obligations.StatusAfterCommandWrite : Prop :=
  ∀ (s : State) (v : Word) (rest : List Event),
    s.inReset = false → s.phase = .idle → s.events = .host (.write 32 (s.cfg.base + 0x00C) v) :: rest →
    ∃ t, step s = .next t ∧
      ((t.statusWord.getLsbD 0 = true ∧ t.statusWord.getLsbD 1 = false) ∨
        (t.statusWord.getLsbD 0 = false ∧ t.statusWord.getLsbD 1 = true ∧ t.statusWord.extractLsb' 4 4 ≠ 0))

/-! ### What each command computes when it completes -/

/-- R160, R161, R153, R154: running, KSE and KSD complete (idle, `DONE` set, `ERR` as it was). KSE writes the encrypt schedule of
the latched key and sets `EKS_VALID`; KSD writes the decrypt schedule and sets `DKS_VALID`. -/
def Obligations.ScheduleCommandsDeriveSchedules : Prop :=
  (∀ s : State, s.phase = .run →
    ∃ t, exec .kse s = .next t ∧ Completes s t ∧ t.eks = expandKey s.latch.k ∧ t.eksValid = true) ∧
  (∀ s : State, s.phase = .run →
    ∃ t, exec .ksd s = .next t ∧ Completes s t ∧ t.dks = expandDecKey s.latch.k ∧ t.dksValid = true)

/-- R162, R163: running with operands that validation passed, ENCB and DECB complete (idle, `DONE` set, `ERR` as it was). ENCB
writes the encryption of the source block under the stored encrypt schedule, DECB its decryption under the stored decrypt
schedule. -/
def Obligations.BlockCommandsTransformOneBlock : Prop :=
  (∀ s : State, s.phase = .run → s.latchValid .encb = true →
    ∃ t, exec .encb s = .next t ∧ Completes s t ∧
      t.readBlock s.latch.dst.toNat = encryptBlock (s.readBlock s.latch.src.toNat) s.eks) ∧
  (∀ s : State, s.phase = .run → s.latchValid .decb = true →
    ∃ t, exec .decb s = .next t ∧ Completes s t ∧
      t.readBlock s.latch.dst.toNat = decryptBlock (s.readBlock s.latch.src.toNat) s.dks)

/-- R200, R201, R97: running with operands that validation passed, CBCE and CBCD complete (idle, `DONE` set, `ERR` as it was). The
output blocks of CBCE and CBCD are the CBC encryption or decryption of the input blocks as they were before the command;
`IV0..IV3` take the last ciphertext block, `EKS` or `DKS` the key's schedule. -/
def Obligations.CbcCommandsChainBlocks : Prop :=
  (∀ s : State, s.phase = .run → s.latchValid .cbce = true →
    ∃ t, exec .cbce s = .next t ∧ Completes s t ∧
      let out := cbcEncrypt (expandKey s.latch.k) s.latch.iv.lo (s.blocksAt s.latch.src.toNat (s.latch.n.toNat / 16))
      t.blocksAt s.latch.dst.toNat (s.latch.n.toNat / 16) = out ∧
      registerBytes t.iv = { lo := lastBlock s.latch.iv.lo out, hi := (registerBytes s.iv).hi } ∧
      t.eks = expandKey s.latch.k ∧ t.eksValid = true) ∧
  (∀ s : State, s.phase = .run → s.latchValid .cbcd = true →
    ∃ t, exec .cbcd s = .next t ∧ Completes s t ∧
      let inp := s.blocksAt s.latch.src.toNat (s.latch.n.toNat / 16)
      t.blocksAt s.latch.dst.toNat (s.latch.n.toNat / 16) = cbcDecrypt (expandDecKey s.latch.k) s.latch.iv.lo inp ∧
      registerBytes t.iv = { lo := lastBlock s.latch.iv.lo inp, hi := (registerBytes s.iv).hi } ∧
      t.dks = expandDecKey s.latch.k ∧ t.dksValid = true)

/-- R222 in closed form: running with operands that validation passed, CTR completes (idle, `DONE` set, `ERR` as it was), with
each output byte, the cursor and the counter of the closed form, `IV4..IV7` as they were, and `EKS` the key's schedule. The
spec derives the form itself, 42_ctr.md R223: 'End state, closed form [derived: from rules R220, R222]'. -/
def Obligations.CtrClosedForm : Prop :=
  ∀ s : State, s.phase = .run → s.latchValid .ctr = true →
    ∃ t, exec .ctr s = .next t ∧ Completes s t ∧
      (∀ j, j < s.latch.n.toNat →
        t.readByte (s.latch.dst.toNat + j) =
          s.readByte (s.latch.src.toNat + j) ^^^
            ctrStreamByte (expandKey s.latch.k) (be128 s.latch.iv.lo) (s.latch.cur.toNat + j)) ∧
      t.cur.toNat = (s.latch.cur.toNat + s.latch.n.toNat) % 16 ∧
      registerBytes t.iv =
        { lo := block128 ((be128 s.latch.iv.lo + (s.latch.cur.toNat + s.latch.n.toNat) / 16) % 2 ^ 128)
          hi := (registerBytes s.iv).hi } ∧
      t.eks = expandKey s.latch.k ∧ t.eksValid = true

/-- R240, R241, R242, R243, R97: running with operands that validation passed, IGEE and IGED complete (idle, `DONE` set, `ERR` as
it was). The output blocks of IGEE are the IGE chain of the input blocks under the encryptor, `X` starting as IV bytes 0..15
and `Y` as bytes 16..31; those of IGED the chain under the decryptor with the halves swapped; the IV is not written. -/
def Obligations.IgeCommandsChainBlocks : Prop :=
  (∀ s : State, s.phase = .run → s.latchValid .igee = true →
    ∃ t, exec .igee s = .next t ∧ Completes s t ∧
      t.blocksAt s.latch.dst.toNat (s.latch.n.toNat / 16) =
        igeChain (fun b => encryptBlock b (expandKey s.latch.k)) s.latch.iv.lo s.latch.iv.hi
          (s.blocksAt s.latch.src.toNat (s.latch.n.toNat / 16)) ∧
      t.iv = s.iv ∧ t.eks = expandKey s.latch.k ∧ t.eksValid = true) ∧
  (∀ s : State, s.phase = .run → s.latchValid .iged = true →
    ∃ t, exec .iged s = .next t ∧ Completes s t ∧
      t.blocksAt s.latch.dst.toNat (s.latch.n.toNat / 16) =
        igeChain (fun b => decryptBlock b (expandDecKey s.latch.k)) s.latch.iv.hi s.latch.iv.lo
          (s.blocksAt s.latch.src.toNat (s.latch.n.toNat / 16)) ∧
      t.iv = s.iv ∧ t.dks = expandDecKey s.latch.k ∧ t.dksValid = true)

/-- R114 to R116: any command that passes validation runs from acceptance to completion without error, `BUSY` in between and
`DONE` with `ERR` = 0 at the end. -/
def Obligations.ValidCommandRunsToCompletion : Prop :=
  ∀ (i : Instr) (s : State), s.phase = .idle → s.validate i = .ok →
    ∃ t, Runs i s t ∧ t.phase = .idle ∧ t.done = true ∧ t.err = .ok ∧ KeepsControl s t

/-! ### Frames: what a completing command leaves unchanged -/

/-- R160, R161: KSE and KSD change no register but their schedule, and no byte of DMEM. -/
def Obligations.ScheduleCommandsFrame : Prop :=
  ∀ (i : Instr) (s t : State), (i = .kse ∨ i = .ksd) → s.phase = .run → exec i s = .next t →
    KeepsControl s t ∧ Completes s t ∧ t.iv = s.iv ∧ t.cur = s.cur ∧
      (i = .kse → t.dks = s.dks ∧ t.dksValid = s.dksValid) ∧ (i = .ksd → t.eks = s.eks ∧ t.eksValid = s.eksValid) ∧
      ∀ x, t.readByte x = s.readByte x

/-- R162, R163, R97: ENCB and DECB change no register, and no byte of DMEM outside the 16 bytes at `DST_L`. -/
def Obligations.BlockCommandsFrame : Prop :=
  ∀ (i : Instr) (s t : State), (i = .encb ∨ i = .decb) → s.phase = .run → exec i s = .next t →
    KeepsControl s t ∧ Completes s t ∧ t.iv = s.iv ∧ t.cur = s.cur ∧ t.eks = s.eks ∧ t.eksValid = s.eksValid ∧ t.dks = s.dks ∧
      t.dksValid = s.dksValid ∧ SameOutside s.latch.dst.toNat 16 s t

/-- R200, R201, R97: CBCE and CBCD change no register but `IV0..IV3` and their schedule, and no byte of DMEM outside the
destination range. -/
def Obligations.CbcCommandsFrame : Prop :=
  ∀ (i : Instr) (s t : State), (i = .cbce ∨ i = .cbcd) → s.phase = .run → exec i s = .next t →
    KeepsControl s t ∧ Completes s t ∧ KeepsHighIv s t ∧ t.cur = s.cur ∧
      (i = .cbce → t.dks = s.dks ∧ t.dksValid = s.dksValid) ∧ (i = .cbcd → t.eks = s.eks ∧ t.eksValid = s.eksValid) ∧
      SameOutside s.latch.dst.toNat s.latch.n.toNat s t

/-- R222, R97: CTR changes no register but `IV0..IV3`, `CURSOR` and `EKS`, and no byte of DMEM outside the destination range. -/
def Obligations.CtrCommandFrame : Prop :=
  ∀ s t : State, s.phase = .run → exec .ctr s = .next t →
    KeepsControl s t ∧ Completes s t ∧ KeepsHighIv s t ∧ t.dks = s.dks ∧ t.dksValid = s.dksValid ∧
      SameOutside s.latch.dst.toNat s.latch.n.toNat s t

/-- R241, R242, R243, R97: IGEE and IGED change no register but their schedule, not even the IV and the cursor, and no byte of
DMEM outside the destination range. -/
def Obligations.IgeCommandsFrame : Prop :=
  ∀ (i : Instr) (s t : State), (i = .igee ∨ i = .iged) → s.phase = .run → exec i s = .next t →
    KeepsControl s t ∧ Completes s t ∧ t.iv = s.iv ∧ t.cur = s.cur ∧
      (i = .igee → t.dks = s.dks ∧ t.dksValid = s.dksValid) ∧ (i = .iged → t.eks = s.eks ∧ t.eksValid = s.eksValid) ∧
      SameOutside s.latch.dst.toNat s.latch.n.toNat s t

/-! ### Soundness of states and steps -/

/-- R60, R310: the state right after reset is sound. -/
def Obligations.ResetMeetsInvariant : Prop :=
  State.reset.Inv

/-- R13, R35, R54, R84, R300: every step keeps the invariant: DMEM in canonical form, the latches equal to the registers while a
command runs, `BUSY` and `DONE` never together, reset values in reset. -/
def Obligations.StepKeepsInvariant : Prop :=
  ∀ s t : State, s.Inv → step s = .next t → t.Inv

/-- R116, R272, R274: from a sound state no step stops; every error is a completion. -/
def Obligations.SoundStateNeverStops : Prop :=
  ∀ s : State, s.Inv → ∃ t, step s = .next t

/-- R13: a command stops with a fault exactly when it is to complete with operands that validation refuses, and it is never
refused by the model. The fault is the model's own (notes/assumptions/7.md). -/
def Obligations.FaultExactlyOnUnvalidatedLatch : Prop :=
  ∀ (i : Instr) (s : State),
    (∀ f, exec i s = .fault f ↔ f = .latchNotValidated ∧ s.phase = .run ∧ s.latchValid i = false) ∧
    ∀ r, exec i s ≠ .refused r

/-- R116: from a sound state, a running command completes after finitely many steps when the platform does not reset the engine:
at most one more step than there are inputs left. -/
def Obligations.RunningCommandCompletes : Prop :=
  ∀ s : State, s.Inv → s.phase = .run → .assertReset ∉ s.events →
    ∃ n t, n ≤ s.events.length + 1 ∧ Sys2Proof.core.run n s = .next t ∧ t.phase = .idle ∧ t.done = true ∧ t.err = .ok

/-- R282: from a sound state, a write to `SRC` that meets the completion is ignored with `IGN` set, when it comes first, or is
performed, when it comes second; the command's results are the same. -/
def Obligations.WriteAndCompletionEitherOrder : Prop :=
  ∀ (s : State) (v : Word) (rest : List Event), s.Inv → s.phase = .run →
    ∃ t u t' u',
      (step { s with events := .host (.write 32 (s.cfg.base + 0x010) v) :: .engine :: rest } = .next t ∧
        step t = .next u ∧ u.src = s.src ∧ u.ign = true ∧ u.done = true ∧ u.phase = .idle) ∧
      (step { s with events := .engine :: .host (.write 32 (s.cfg.base + 0x010) v) :: rest } = .next t' ∧
        step t' = .next u' ∧ u'.src = v ∧ u'.ign = s.ign ∧ u'.done = true ∧ u'.phase = .idle) ∧
      u.dmem = u'.dmem ∧ u.iv = u'.iv ∧ u.cur = u'.cur ∧ u.eks = u'.eks ∧ u.dks = u'.dks ∧ u.err = u'.err

/-- R295: with no command running, the engine's turn changes nothing. -/
def Obligations.IdleEngineKeepsState : Prop :=
  ∀ (s : State) (rest : List Event), s.phase = .idle →
    (s.events = [] → step s = .next s) ∧ (s.events = .engine :: rest → step s = .next { s with events := rest })

/-! ### Reset -/

/-- R60: the register values right after reset release. -/
def Obligations.ResetValues : Prop :=
  State.reset.registersReset ∧ State.reset.inReset = false ∧ State.reset.portValue .id = 0x41455301 ∧
    State.reset.ctrlWord = 0 ∧ State.reset.statusWord = 0 ∧ State.reset.irq = false

/-- R300, R301: asserting reset puts every register at its reset value, abandons a running command, and leaves each byte of DMEM as it
was, but for the destination range of the abandoned command; releasing reset changes nothing but the reset input. That a release with
no assertion before it changes nothing either is no rule of the spec but the model's choice (notes/assumptions/5.md). -/
def Obligations.ResetEventEffect : Prop :=
  (∀ (s : State) (rest : List Event), s.events = .assertReset :: rest →
    ∃ t, step s = .next t ∧ t.registersReset ∧ t.inReset = true ∧ t.irq = false ∧ t.cfg = s.cfg ∧ t.events = rest ∧
      (s.phase = .idle → t.dmem = s.dmem) ∧
      (s.phase = .run → SameOutside s.latch.dst.toNat s.latch.n.toNat s t)) ∧
  (∀ (s : State) (rest : List Event), s.events = .releaseReset :: rest →
    step s = .next { s with events := rest, inReset := false })

/-- R300: accesses made while reset is asserted have no effect; the step changes only the input list, the bus's answer and the
count of free values. -/
def Obligations.AccessInResetHasNoEffect : Prop :=
  ∀ (s : State) (a : Access) (rest : List Event), s.inReset = true → s.events = .host a :: rest →
    ∃ t, step s = .next t ∧ t = { s with events := rest, resp := t.resp, draws := t.draws }

/-! ### Bus accesses -/

/-- R32, R33 to R41, R83, R88: reads of `ID`, `CTRL`, `STATUS`, `CMD`, `SRC`, `DST`, `LEN` and `KEYk` return the value their rule gives,
and reads of reserved offsets return 0, running or not, and have no side effect. `CTRL` reads as `IE` in bit 0 and 0 in bits 31:1
(R34). -/
def Obligations.SteadyRegisterReads : Prop :=
  (∀ (s : State) (off : Nat) (v : Word) (rest : List Event), s.inReset = false →
    ((off, v) ∈ s.steadyReads ∨ (0x060 ≤ off ∧ off < 0x10000 ∧ off % 4 = 0 ∧ v = 0)) →
    s.events = .host (.read 32 (s.cfg.base + off)) :: rest →
    step s = .next { s with events := rest, resp := .read v }) ∧
  ∀ s : State, s.ctrlWord.getLsbD 0 = s.ie ∧ s.ctrlWord.extractLsb' 1 31 = 0

/-- R39, R42, R83, R85, R88: while idle, reads of `CURSOR` and `IVk` return the register, reserved offsets read 0, and reads of the DMEM
window return the byte, or the four bytes most significant first, and 0 at or beyond `DMEM_BYTES`; no read has a side effect. -/
def Obligations.IdleReadsReturnContents : Prop :=
  ∀ (s : State) (rest : List Event), s.inReset = false → s.phase = .idle →
    (s.events = .host (.read 32 (s.cfg.base + 0x01C)) :: rest →
      step s = .next { s with events := rest, resp := .read (s.cur.setWidth 32) }) ∧
    (∀ k : Fin 8, s.events = .host (.read 32 (s.cfg.base + 0x040 + 4 * k.val)) :: rest →
      step s = .next { s with events := rest, resp := .read s.iv[k] }) ∧
    (∀ off, 0x060 ≤ off → off < 0x10000 → off % 4 = 0 → s.events = .host (.read 32 (s.cfg.base + off)) :: rest →
      step s = .next { s with events := rest, resp := .read 0 }) ∧
    (∀ a, a < 0x10000 → s.events = .host (.read 8 (s.cfg.base + (0x10000 + a))) :: rest →
      step s = .next { s with
        events := rest
        resp := .read (if a < s.cfg.dmemBytes then (s.readByte a).setWidth 32 else 0) }) ∧
    (∀ a, a < 0x10000 → a % 4 = 0 → s.events = .host (.read 32 (s.cfg.base + (0x10000 + a))) :: rest →
      step s = .next { s with
        events := rest
        resp := .read
          (if a < s.cfg.dmemBytes then s.readByte a ++ s.readByte (a + 1) ++ s.readByte (a + 2) ++ s.readByte (a + 3)
            else 0) })

/-- R32, R89: while a command runs, a read of `IVk`, `CURSOR` or the DMEM window has no effect but its answer, which is some value
the spec leaves unspecified (the model's free value and its count of free values, notes/assumptions/4.md). -/
def Obligations.BusyReadsChangeNothing : Prop :=
  ∀ (s : State) (width off : Nat) (rest : List Event), s.inReset = false → s.phase = .run → off < 0x20000 →
    (width = 32 ∧ off % 4 = 0 ∧ (off = 0x01C ∨ (0x040 ≤ off ∧ off < 0x060) ∨ 0x10000 ≤ off) ∨
      width = 8 ∧ 0x10000 ≤ off) →
    s.events = .host (.read width (s.cfg.base + off)) :: rest →
    ∃ v d, step s = .next { s with events := rest, resp := .read v, draws := d }

/-- R33, R34, R36 to R39, R41, R42, R83: while idle, a write stores what the register's rule says, and nothing else. -/
def Obligations.IdleRegisterWrites : Prop :=
  ∀ (s : State) (off : Nat) (v : Word) (rest : List Event), s.inReset = false → s.phase = .idle →
    s.events = .host (.write 32 (s.cfg.base + off) v) :: rest →
    (off = 0x000 ∨ (0x060 ≤ off ∧ off < 0x10000 ∧ off % 4 = 0) →
      step s = .next { s with events := rest, resp := .wrote }) ∧
    (off = 0x004 → step s = .next { s with events := rest, resp := .wrote, ie := v.getLsbD 0 }) ∧
    (off = 0x010 → step s = .next { s with events := rest, resp := .wrote, src := v }) ∧
    (off = 0x014 → step s = .next { s with events := rest, resp := .wrote, dst := v }) ∧
    (off = 0x018 → step s = .next { s with events := rest, resp := .wrote, len := v }) ∧
    (off = 0x01C → step s = .next { s with events := rest, resp := .wrote, cur := v.extractLsb' 0 8 }) ∧
    (∀ k : Fin 8, off = 0x020 + 4 * k.val →
      step s = .next { s with events := rest, resp := .wrote, key := s.key.set k v }) ∧
    (∀ k : Fin 8, off = 0x040 + 4 * k.val →
      step s = .next { s with events := rest, resp := .wrote, iv := s.iv.set k v })

/-- R35: a write to `STATUS` clears `DONE` and `IGN` where it has a 1, running or not, and does nothing else. -/
def Obligations.StatusWriteClears : Prop :=
  ∀ (s : State) (v : Word) (rest : List Event), s.inReset = false →
    s.events = .host (.write 32 (s.cfg.base + 0x008) v) :: rest →
    step s = .next { s with
      events := rest, resp := .wrote
      done := if v.getLsbD 1 then false else s.done
      ign := if v.getLsbD 2 then false else s.ign }

/-- R35, R260: the fields of `STATUS` as a read shows them; reserved bits are 0, `ERR` holds the number that R260 gives the error, and
codes 7 to 15 never appear. -/
def Obligations.StatusWordFields : Prop :=
  (∀ s : State,
    (s.statusWord.getLsbD 0 = true ↔ s.phase = .run) ∧ s.statusWord.getLsbD 1 = s.done ∧
      s.statusWord.getLsbD 2 = s.ign ∧ s.statusWord.getLsbD 3 = false ∧ s.statusWord.extractLsb' 4 4 = s.err.code ∧
      (s.statusWord.extractLsb' 4 4).toNat ≤ 6 ∧ s.statusWord.getLsbD 8 = s.eksValid ∧
      s.statusWord.getLsbD 9 = s.dksValid ∧ s.statusWord.extractLsb' 10 22 = 0) ∧
  ErrCode.code .ok = 0 ∧ ErrCode.code .invalidLength = 1 ∧ ErrCode.code .invalidState = 2 ∧ ErrCode.code .illegalCmd = 3 ∧
    ErrCode.code .range = 4 ∧ ErrCode.code .overlap = 5 ∧ ErrCode.code .noSchedule = 6

/-- R276: while a command runs, every write the bus accepts, to any offset but `STATUS`, has no effect and sets `IGN`; and `IGN`
stays 1 until the host writes 1 to `STATUS[2]`, or reset. -/
def Obligations.BusyWritesAreIgnored : Prop :=
  (∀ (s : State) (width off : Nat) (v : Word) (rest : List Event), s.inReset = false → s.phase = .run →
    off < 0x20000 → off ≠ 0x008 → (width = 32 ∧ off % 4 = 0 ∨ width = 8 ∧ 0x10000 ≤ off) →
    s.events = .host (.write width (s.cfg.base + off) v) :: rest →
    step s = .next { s with events := rest, resp := .wrote, ign := true }) ∧
  (∀ s t : State, step s = .next t → s.ign = true → t.ign = false →
    s.events.head? = some .assertReset ∨
      ∃ v : Word, s.events.head? = some (.host (.write 32 (s.cfg.base + 0x008) v)) ∧ v.getLsbD 2 = true)

/-- R82, R262: out of reset, a refused access shape gets a bus error, reads 0, and has no effect: not even `IGN`. -/
def Obligations.RefusedShapesHaveNoEffect : Prop :=
  ∀ (s : State) (width off : Nat) (v : Word) (rest : List Event), s.inReset = false → off < 0x20000 →
    ¬ (width = 32 ∧ off % 4 = 0 ∨ width = 8 ∧ 0x10000 ≤ off) →
    (s.events = .host (.read width (s.cfg.base + off)) :: rest ∨
      s.events = .host (.write width (s.cfg.base + off) v) :: rest) →
    ∃ t, step s = .next t ∧ t = { s with events := rest, resp := .busError } ∧ t.resp.readData = 0

/-- R85: while idle and out of reset, a byte written to DMEM reads back, other bytes keep their value, and offsets at or beyond
`DMEM_BYTES` ignore writes. -/
def Obligations.DmemByteWrite : Prop :=
  ∀ (s : State) (a : Nat) (v : Word) (rest : List Event), s.inReset = false → s.phase = .idle → a < 0x10000 →
    s.events = .host (.write 8 (s.cfg.base + (0x10000 + a)) v) :: rest →
    ∃ t, step s = .next t ∧ t = { s with events := rest, resp := .wrote, dmem := t.dmem } ∧
      (a < s.cfg.dmemBytes → t.readByte a = v.extractLsb' 0 8) ∧ (s.cfg.dmemBytes ≤ a → t.dmem = s.dmem) ∧
      SameOutside a 1 s t

/-- R85, R86: while idle and out of reset, a 32-bit write to DMEM puts bits `31-8j : 24-8j` into byte `j`, changes no other byte and no
register, and is ignored at or beyond `DMEM_BYTES`. A read after it, of a byte or of the word, returns what was written. -/
def Obligations.DmemWordWriteReadsBack : Prop :=
  ∀ (s : State) (a : Nat) (v : Word) (rest : List Event), s.inReset = false → s.phase = .idle → s.cfg.legal →
    a % 4 = 0 → a < 0x10000 → s.events = .host (.write 32 (s.cfg.base + (0x10000 + a)) v) :: rest →
    ∃ t, step s = .next t ∧ t = { s with events := rest, resp := .wrote, dmem := t.dmem } ∧ SameOutside a 4 s t ∧
      (s.cfg.dmemBytes ≤ a → t.dmem = s.dmem) ∧
      (a < s.cfg.dmemBytes →
        (∀ j, j < 4 → t.readByte (a + j) = v.extractLsb' (24 - 8 * j) 8) ∧
        (∀ j more, j < 4 → rest = .host (.read 8 (s.cfg.base + (0x10000 + a + j))) :: more →
          ∃ u, step t = .next u ∧ u.resp = .read ((v.extractLsb' (24 - 8 * j) 8).setWidth 32)) ∧
        (∀ more, rest = .host (.read 32 (s.cfg.base + (0x10000 + a))) :: more →
          ∃ u, step t = .next u ∧ u.resp = .read v))

/-- R280, R281: `IRQ` is `CTRL.IE & STATUS.DONE` at all times; it rises exactly when `DONE` goes 0 to 1 with `IE` = 1, or `IE` goes 0 to 1
with `DONE` = 1; and if a step raises it, a command completes in it, or a `CMD` write fails in it, or the host sets `IE`. The spec
derives the edges itself, 60_exceptions.md R280: '`IRQ` rises exactly when `DONE` goes 0 to 1 with `IE = 1`, or `IE` goes 0 to 1 with
`DONE = 1` [derived: from the equation]'. -/
def Obligations.IrqIsEnabledCompletion : Prop :=
  (∀ s : State, s.irq = true ↔ s.ie = true ∧ s.done = true) ∧
  (∀ s t : State, step s = .next t →
    ((s.irq = false ∧ t.irq = true) ↔
      (s.done = false ∧ t.done = true ∧ s.ie = true ∧ t.ie = true) ∨
        (s.ie = false ∧ t.ie = true ∧ s.done = true ∧ t.done = true))) ∧
  ∀ s t : State, step s = .next t → s.irq = false → t.irq = true →
    (s.done = false ∧ t.done = true ∧ t.ie = s.ie ∧
      (s.completesNext ∨ ∃ v, s.events.head? = some (.host (.write 32 (s.cfg.base + 0x00C) v)))) ∨
    (s.done = true ∧ s.ie = false ∧ t.ie = true ∧
      ∃ v : Word, s.events.head? = some (.host (.write 32 (s.cfg.base + 0x004) v)) ∧ v.getLsbD 0 = true)

/-! ### Whole-machine rules -/

/-- R52: nothing clears `EKS_VALID` or `DKS_VALID` but reset, and a schedule whose bit is set changes only when a running command
completes or at reset. -/
def Obligations.ValidityBitsClearedOnlyByReset : Prop :=
  ∀ s t : State, step s = .next t → s.events.head? ≠ some .assertReset →
    (s.eksValid = true → t.eksValid = true) ∧ (s.dksValid = true → t.dksValid = true) ∧
      (¬ s.completesNext → t.eks = s.eks ∧ t.dks = s.dks ∧ t.eksValid = s.eksValid ∧ t.dksValid = s.dksValid)

/-- R34, R36 to R39, R41, R42: `CTRL`, `SRC`, `DST`, `LEN` and `KEYk` change only by a host write while idle, or reset, so no
command changes them; `CURSOR` changes besides only when CTR completes, and `IVk` only when CBCE, CBCD or CTR completes. -/
def Obligations.OperandRegistersChangeOnlyByHost : Prop :=
  ∀ s t : State, step s = .next t →
    let byHost := s.events.head? = some .assertReset ∨
      (s.phase = .idle ∧ ∃ addr v, s.events.head? = some (.host (.write 32 addr v)))
    ((t.ie, t.src, t.dst, t.len, t.key) ≠ (s.ie, s.src, s.dst, s.len, s.key) → byHost) ∧
    (t.cur ≠ s.cur → byHost ∨ (s.completesNext ∧ s.latch.op = .ctr)) ∧
    (t.iv ≠ s.iv → byHost ∨ (s.completesNext ∧ (s.latch.op = .cbce ∨ s.latch.op = .cbcd ∨ s.latch.op = .ctr)))

/-- R41, R50, R51, R285: the key cannot be read. Two states that differ only in the key, its latched copy and the schedules give
the same answers and the same next states but for those secrets, in every step that completes no command and draws no free
value. A value that the spec leaves unspecified may depend on anything, so nothing is said of steps that draw one
(notes/assumptions/4.md). -/
def Obligations.KeyIsSecret : Prop :=
  ∀ s t u : State, SameButSecrets s t → ¬ s.completesNext → step s = .next u → u.draws = s.draws →
    ∃ w, step t = .next w ∧ SameButSecrets u w

/-! ### The cipher -/

/-- R142, R143: the S-box table is the formula's, and the inverse table undoes it. -/
def Obligations.SboxTablesAgree : Prop :=
  ∀ a : Byte, sbox a = sboxFormula a ∧ invSbox (sbox a) = a ∧ sbox (invSbox a) = a ∧ (a ≠ 0 → gfMul a (gfInv a) = 1)

/-- R143, R147, R149: the inverse transforms undo the transforms, on every state. -/
def Obligations.InverseTransformsUndoTransforms : Prop :=
  ∀ s : Block, invSubBytes (subBytes s) = s ∧ invShiftRows (shiftRows s) = s ∧ invMixColumns (mixColumns s) = s ∧
    mixColumns (invMixColumns s) = s

/-- R152: the words of the encrypt schedule are the key's words, then the recurrence with its two special steps; R154: the decrypt
schedule holds the encrypt round keys in reverse order, all but the first and last through `InvMixWord`. -/
def Obligations.KeySchedulesFollowRecurrence : Prop :=
  ∀ k : Bytes32,
    (List.range 8).map (scheduleWord (expandKey k)) =
      [be32 k.lo.c0, be32 k.lo.c1, be32 k.lo.c2, be32 k.lo.c3, be32 k.hi.c0, be32 k.hi.c1, be32 k.hi.c2, be32 k.hi.c3] ∧
    (∀ i, 8 ≤ i → i < 60 →
      scheduleWord (expandKey k) i =
        scheduleWord (expandKey k) (i - 8) ^^^
          (if i % 8 = 0 then subWord (rotWord (scheduleWord (expandKey k) (i - 1))) ^^^ rcon (i / 8)
            else if i % 8 = 4 then subWord (scheduleWord (expandKey k) (i - 1))
            else scheduleWord (expandKey k) (i - 1))) ∧
    ∀ r c, r < 15 → c < 4 →
      scheduleWord (expandDecKey k) (4 * r + c) =
        if r = 0 ∨ r = 14 then scheduleWord (expandKey k) (4 * (14 - r) + c)
        else invMixWord (scheduleWord (expandKey k) (4 * (14 - r) + c))

/-- The inverse law, for every key and block, and the equality of the equivalent and the straightforward inverse cipher. The spec
marks 40_cipher_core.md R157 as its own inference: 'Both facts are standard properties of AES [from general knowledge, not in
source]'. -/
def Obligations.DecryptInvertsEncrypt : Prop :=
  ∀ (k : Bytes32) (b : Block),
    decryptBlock (encryptBlock b (expandKey k)) (expandDecKey k) = b ∧
      encryptBlock (decryptBlock b (expandDecKey k)) (expandKey k) = b ∧
      decryptBlock b (expandDecKey k) = straightDecrypt b (expandKey k)

/-- R220: `Inc128` adds 1 to the 128-bit big-endian number, modulo 2^128. -/
def Obligations.Inc128AddsOne : Prop :=
  ∀ v : Block, be128 (inc128 v) = (be128 v + 1) % 2 ^ 128

/-! ### Laws of the modes -/

/-- CBC round trip: decrypting with the same key and initial IV gives back the data. The spec derives this itself, 41_cbc.md R202:
'With the same key, CBCE from IV `v` on data `d`, then CBCD from IV `v` on the output, gives back `d`'. -/
def Obligations.CbcRoundTrip : Prop :=
  ∀ (k : Bytes32) (iv : Block) (d : List Block),
    cbcDecrypt (expandDecKey k) iv (cbcEncrypt (expandKey k) iv d) = d

/-- CBC across commands: two parts chained through the IV that the first leaves give the bytes of the whole, both ways. The spec
derives this itself, 41_cbc.md R203: 'The same holds for CBCD'. -/
def Obligations.CbcSplitsAtBlocks : Prop :=
  ∀ (w : Schedule) (iv : Block) (d₁ d₂ : List Block),
    cbcEncrypt w iv (d₁ ++ d₂) =
        cbcEncrypt w iv d₁ ++ cbcEncrypt w (lastBlock iv (cbcEncrypt w iv d₁)) d₂ ∧
      cbcDecrypt w iv (d₁ ++ d₂) = cbcDecrypt w iv d₁ ++ cbcDecrypt w (lastBlock iv d₁) d₂

/-- CBC error propagation: a changed ciphertext block `i` leaves the plaintext before `i` alone, changes plaintext block `i + 1`
by exactly the same difference, and leaves every later block alone. The spec derives this itself, 41_cbc.md R202: 'Block `i+1`
changes in exactly the flipped bit position'. -/
def Obligations.CbcErrorPropagation : Prop :=
  ∀ (d : Schedule) (iv : Block) (cs : List Block) (i j : Nat) (c e : Block), cs[i]? = some c →
    (j ≠ i → j ≠ i + 1 →
      (cbcDecrypt d iv (cs.set i (xorBlock c e)))[j]? = (cbcDecrypt d iv cs)[j]?) ∧
    (j = i + 1 →
      (cbcDecrypt d iv (cs.set i (xorBlock c e)))[j]? = ((cbcDecrypt d iv cs)[j]?).map fun p => xorBlock p e)

/-- IGE round trip with the same key and the unchanged IV. The spec derives this itself, 43_ige.md R244: 'IGED after IGEE with the
same key gives back the data'. -/
def Obligations.IgeRoundTrip : Prop :=
  ∀ (k iv : Bytes32) (d : List Block),
    igeChain (fun b => decryptBlock b (expandDecKey k)) iv.hi iv.lo
      (igeChain (fun b => encryptBlock b (expandKey k)) iv.lo iv.hi d) = d

/-- IGE across commands: two parts chained through the last output block and the last input block give the bytes of the whole, for
any block transform. The spec derives this itself, 43_ige.md R244: 'The second command then writes the same bytes as one
command over the whole data'. -/
def Obligations.IgeSplitsAtBlocks : Prop :=
  ∀ (f : Block → Block) (x y : Block) (d₁ d₂ : List Block),
    igeChain f x y (d₁ ++ d₂) =
      igeChain f x y d₁ ++ igeChain f (lastBlock x (igeChain f x y d₁)) (lastBlock y d₁) d₂

/-- A CTR stream split at `0 < p < L` over two commands, the IV and the cursor left as the first command left them, writes the
bytes of one command over the whole and leaves the same IV and cursor. The spec derives this itself, 42_ctr.md R224: 'The
output bytes are the same as one CTR over `d` from `v` and `c0`, and the end IV and cursor are the same'. -/
def Obligations.CtrIsResumable : Prop :=
  ∀ (s : State) (p : Nat), s.cfg.legal → s.phase = .idle → s.validate .ctr = .ok → 0 < p → p < s.len.toNat →
    ∃ whole first second, Runs .ctr s whole ∧ Runs .ctr { s with len := BitVec.ofNat 32 p } first ∧
      Runs .ctr { first with
        src := s.src + BitVec.ofNat 32 p
        dst := s.dst + BitVec.ofNat 32 p
        len := s.len - BitVec.ofNat 32 p } second ∧
      (∀ x, second.readByte x = whole.readByte x) ∧ second.iv = whole.iv ∧ second.cur = whole.cur

/-- Running CTR over its own output from the same IV and cursor gives back the data, wherever the second command puts its result.
The spec derives this itself, 42_ctr.md R225: 'Running CTR over `d` from IV `v` and cursor `c0`, and then CTR over the output
from the same `v` and `c0`, gives back `d`'. -/
def Obligations.CtrIsAnInvolution : Prop :=
  ∀ (s : State) (e : Word), s.phase = .idle → s.validate .ctr = .ok →
    ({ s with src := s.dst, dst := e } : State).validate .ctr = .ok →
    ∃ t u, Runs .ctr s t ∧ Runs .ctr { t with src := s.dst, dst := e, iv := s.iv, cur := s.cur } u ∧
      ∀ j, j < s.len.toNat → u.readByte (e.toNat + j) = s.readByte (s.src.toNat + j)
end

