-- ==== Sys2Proof/Laws/State.lean ====
section
/-!
SUPPORT. What each named update of the state does to each field: one lemma for a field and an update, true by definition, so
that no later proof unfolds a record update.
-/

namespace Sys2Proof.Machine

variable (s : State)

/-! ### `State.writeBytes` -/

@[simp] theorem State.writeBytes_cfg (a : Nat) (bs : List Byte) : (s.writeBytes a bs).cfg = s.cfg := rfl
@[simp] theorem State.writeBytes_inReset (a : Nat) (bs : List Byte) : (s.writeBytes a bs).inReset = s.inReset := rfl
@[simp] theorem State.writeBytes_ie (a : Nat) (bs : List Byte) : (s.writeBytes a bs).ie = s.ie := rfl
@[simp] theorem State.writeBytes_done (a : Nat) (bs : List Byte) : (s.writeBytes a bs).done = s.done := rfl
@[simp] theorem State.writeBytes_ign (a : Nat) (bs : List Byte) : (s.writeBytes a bs).ign = s.ign := rfl
@[simp] theorem State.writeBytes_err (a : Nat) (bs : List Byte) : (s.writeBytes a bs).err = s.err := rfl
@[simp] theorem State.writeBytes_src (a : Nat) (bs : List Byte) : (s.writeBytes a bs).src = s.src := rfl
@[simp] theorem State.writeBytes_dst (a : Nat) (bs : List Byte) : (s.writeBytes a bs).dst = s.dst := rfl
@[simp] theorem State.writeBytes_len (a : Nat) (bs : List Byte) : (s.writeBytes a bs).len = s.len := rfl
@[simp] theorem State.writeBytes_cur (a : Nat) (bs : List Byte) : (s.writeBytes a bs).cur = s.cur := rfl
@[simp] theorem State.writeBytes_key (a : Nat) (bs : List Byte) : (s.writeBytes a bs).key = s.key := rfl
@[simp] theorem State.writeBytes_iv (a : Nat) (bs : List Byte) : (s.writeBytes a bs).iv = s.iv := rfl
@[simp] theorem State.writeBytes_eks (a : Nat) (bs : List Byte) : (s.writeBytes a bs).eks = s.eks := rfl
@[simp] theorem State.writeBytes_dks (a : Nat) (bs : List Byte) : (s.writeBytes a bs).dks = s.dks := rfl
@[simp] theorem State.writeBytes_eksValid (a : Nat) (bs : List Byte) : (s.writeBytes a bs).eksValid = s.eksValid := rfl
@[simp] theorem State.writeBytes_dksValid (a : Nat) (bs : List Byte) : (s.writeBytes a bs).dksValid = s.dksValid := rfl
@[simp] theorem State.writeBytes_phase (a : Nat) (bs : List Byte) : (s.writeBytes a bs).phase = s.phase := rfl
@[simp] theorem State.writeBytes_latch (a : Nat) (bs : List Byte) : (s.writeBytes a bs).latch = s.latch := rfl
@[simp] theorem State.writeBytes_work (a : Nat) (bs : List Byte) : (s.writeBytes a bs).work = s.work := rfl
@[simp] theorem State.writeBytes_dmem (a : Nat) (bs : List Byte) : (s.writeBytes a bs).dmem = Memory.store s.cfg.dmemBytes s.dmem a bs := rfl
@[simp] theorem State.writeBytes_events (a : Nat) (bs : List Byte) : (s.writeBytes a bs).events = s.events := rfl
@[simp] theorem State.writeBytes_resp (a : Nat) (bs : List Byte) : (s.writeBytes a bs).resp = s.resp := rfl
@[simp] theorem State.writeBytes_draws (a : Nat) (bs : List Byte) : (s.writeBytes a bs).draws = s.draws := rfl

/-! ### `State.writeByte` -/

@[simp] theorem State.writeByte_cfg (a : Nat) (b : Byte) : (s.writeByte a b).cfg = s.cfg := rfl
@[simp] theorem State.writeByte_inReset (a : Nat) (b : Byte) : (s.writeByte a b).inReset = s.inReset := rfl
@[simp] theorem State.writeByte_ie (a : Nat) (b : Byte) : (s.writeByte a b).ie = s.ie := rfl
@[simp] theorem State.writeByte_done (a : Nat) (b : Byte) : (s.writeByte a b).done = s.done := rfl
@[simp] theorem State.writeByte_ign (a : Nat) (b : Byte) : (s.writeByte a b).ign = s.ign := rfl
@[simp] theorem State.writeByte_err (a : Nat) (b : Byte) : (s.writeByte a b).err = s.err := rfl
@[simp] theorem State.writeByte_src (a : Nat) (b : Byte) : (s.writeByte a b).src = s.src := rfl
@[simp] theorem State.writeByte_dst (a : Nat) (b : Byte) : (s.writeByte a b).dst = s.dst := rfl
@[simp] theorem State.writeByte_len (a : Nat) (b : Byte) : (s.writeByte a b).len = s.len := rfl
@[simp] theorem State.writeByte_cur (a : Nat) (b : Byte) : (s.writeByte a b).cur = s.cur := rfl
@[simp] theorem State.writeByte_key (a : Nat) (b : Byte) : (s.writeByte a b).key = s.key := rfl
@[simp] theorem State.writeByte_iv (a : Nat) (b : Byte) : (s.writeByte a b).iv = s.iv := rfl
@[simp] theorem State.writeByte_eks (a : Nat) (b : Byte) : (s.writeByte a b).eks = s.eks := rfl
@[simp] theorem State.writeByte_dks (a : Nat) (b : Byte) : (s.writeByte a b).dks = s.dks := rfl
@[simp] theorem State.writeByte_eksValid (a : Nat) (b : Byte) : (s.writeByte a b).eksValid = s.eksValid := rfl
@[simp] theorem State.writeByte_dksValid (a : Nat) (b : Byte) : (s.writeByte a b).dksValid = s.dksValid := rfl
@[simp] theorem State.writeByte_phase (a : Nat) (b : Byte) : (s.writeByte a b).phase = s.phase := rfl
@[simp] theorem State.writeByte_latch (a : Nat) (b : Byte) : (s.writeByte a b).latch = s.latch := rfl
@[simp] theorem State.writeByte_work (a : Nat) (b : Byte) : (s.writeByte a b).work = s.work := rfl
@[simp] theorem State.writeByte_dmem (a : Nat) (b : Byte) : (s.writeByte a b).dmem = Memory.store s.cfg.dmemBytes s.dmem a [b] := rfl
@[simp] theorem State.writeByte_events (a : Nat) (b : Byte) : (s.writeByte a b).events = s.events := rfl
@[simp] theorem State.writeByte_resp (a : Nat) (b : Byte) : (s.writeByte a b).resp = s.resp := rfl
@[simp] theorem State.writeByte_draws (a : Nat) (b : Byte) : (s.writeByte a b).draws = s.draws := rfl

/-! ### `State.writeColumn` -/

@[simp] theorem State.writeColumn_cfg (a : Nat) (c : Column) : (s.writeColumn a c).cfg = s.cfg := rfl
@[simp] theorem State.writeColumn_inReset (a : Nat) (c : Column) : (s.writeColumn a c).inReset = s.inReset := rfl
@[simp] theorem State.writeColumn_ie (a : Nat) (c : Column) : (s.writeColumn a c).ie = s.ie := rfl
@[simp] theorem State.writeColumn_done (a : Nat) (c : Column) : (s.writeColumn a c).done = s.done := rfl
@[simp] theorem State.writeColumn_ign (a : Nat) (c : Column) : (s.writeColumn a c).ign = s.ign := rfl
@[simp] theorem State.writeColumn_err (a : Nat) (c : Column) : (s.writeColumn a c).err = s.err := rfl
@[simp] theorem State.writeColumn_src (a : Nat) (c : Column) : (s.writeColumn a c).src = s.src := rfl
@[simp] theorem State.writeColumn_dst (a : Nat) (c : Column) : (s.writeColumn a c).dst = s.dst := rfl
@[simp] theorem State.writeColumn_len (a : Nat) (c : Column) : (s.writeColumn a c).len = s.len := rfl
@[simp] theorem State.writeColumn_cur (a : Nat) (c : Column) : (s.writeColumn a c).cur = s.cur := rfl
@[simp] theorem State.writeColumn_key (a : Nat) (c : Column) : (s.writeColumn a c).key = s.key := rfl
@[simp] theorem State.writeColumn_iv (a : Nat) (c : Column) : (s.writeColumn a c).iv = s.iv := rfl
@[simp] theorem State.writeColumn_eks (a : Nat) (c : Column) : (s.writeColumn a c).eks = s.eks := rfl
@[simp] theorem State.writeColumn_dks (a : Nat) (c : Column) : (s.writeColumn a c).dks = s.dks := rfl
@[simp] theorem State.writeColumn_eksValid (a : Nat) (c : Column) : (s.writeColumn a c).eksValid = s.eksValid := rfl
@[simp] theorem State.writeColumn_dksValid (a : Nat) (c : Column) : (s.writeColumn a c).dksValid = s.dksValid := rfl
@[simp] theorem State.writeColumn_phase (a : Nat) (c : Column) : (s.writeColumn a c).phase = s.phase := rfl
@[simp] theorem State.writeColumn_latch (a : Nat) (c : Column) : (s.writeColumn a c).latch = s.latch := rfl
@[simp] theorem State.writeColumn_work (a : Nat) (c : Column) : (s.writeColumn a c).work = s.work := rfl
@[simp] theorem State.writeColumn_dmem (a : Nat) (c : Column) : (s.writeColumn a c).dmem = Memory.store s.cfg.dmemBytes s.dmem a (columnBytes c) := rfl
@[simp] theorem State.writeColumn_events (a : Nat) (c : Column) : (s.writeColumn a c).events = s.events := rfl
@[simp] theorem State.writeColumn_resp (a : Nat) (c : Column) : (s.writeColumn a c).resp = s.resp := rfl
@[simp] theorem State.writeColumn_draws (a : Nat) (c : Column) : (s.writeColumn a c).draws = s.draws := rfl

/-! ### `State.writeBlock` -/

@[simp] theorem State.writeBlock_cfg (a : Nat) (b : Block) : (s.writeBlock a b).cfg = s.cfg := rfl
@[simp] theorem State.writeBlock_inReset (a : Nat) (b : Block) : (s.writeBlock a b).inReset = s.inReset := rfl
@[simp] theorem State.writeBlock_ie (a : Nat) (b : Block) : (s.writeBlock a b).ie = s.ie := rfl
@[simp] theorem State.writeBlock_done (a : Nat) (b : Block) : (s.writeBlock a b).done = s.done := rfl
@[simp] theorem State.writeBlock_ign (a : Nat) (b : Block) : (s.writeBlock a b).ign = s.ign := rfl
@[simp] theorem State.writeBlock_err (a : Nat) (b : Block) : (s.writeBlock a b).err = s.err := rfl
@[simp] theorem State.writeBlock_src (a : Nat) (b : Block) : (s.writeBlock a b).src = s.src := rfl
@[simp] theorem State.writeBlock_dst (a : Nat) (b : Block) : (s.writeBlock a b).dst = s.dst := rfl
@[simp] theorem State.writeBlock_len (a : Nat) (b : Block) : (s.writeBlock a b).len = s.len := rfl
@[simp] theorem State.writeBlock_cur (a : Nat) (b : Block) : (s.writeBlock a b).cur = s.cur := rfl
@[simp] theorem State.writeBlock_key (a : Nat) (b : Block) : (s.writeBlock a b).key = s.key := rfl
@[simp] theorem State.writeBlock_iv (a : Nat) (b : Block) : (s.writeBlock a b).iv = s.iv := rfl
@[simp] theorem State.writeBlock_eks (a : Nat) (b : Block) : (s.writeBlock a b).eks = s.eks := rfl
@[simp] theorem State.writeBlock_dks (a : Nat) (b : Block) : (s.writeBlock a b).dks = s.dks := rfl
@[simp] theorem State.writeBlock_eksValid (a : Nat) (b : Block) : (s.writeBlock a b).eksValid = s.eksValid := rfl
@[simp] theorem State.writeBlock_dksValid (a : Nat) (b : Block) : (s.writeBlock a b).dksValid = s.dksValid := rfl
@[simp] theorem State.writeBlock_phase (a : Nat) (b : Block) : (s.writeBlock a b).phase = s.phase := rfl
@[simp] theorem State.writeBlock_latch (a : Nat) (b : Block) : (s.writeBlock a b).latch = s.latch := rfl
@[simp] theorem State.writeBlock_work (a : Nat) (b : Block) : (s.writeBlock a b).work = s.work := rfl
@[simp] theorem State.writeBlock_dmem (a : Nat) (b : Block) : (s.writeBlock a b).dmem = Memory.store s.cfg.dmemBytes s.dmem a (blockBytes b) := rfl
@[simp] theorem State.writeBlock_events (a : Nat) (b : Block) : (s.writeBlock a b).events = s.events := rfl
@[simp] theorem State.writeBlock_resp (a : Nat) (b : Block) : (s.writeBlock a b).resp = s.resp := rfl
@[simp] theorem State.writeBlock_draws (a : Nat) (b : Block) : (s.writeBlock a b).draws = s.draws := rfl

/-! ### `State.setIv16` -/

@[simp] theorem State.setIv16_cfg (b : Block) : (s.setIv16 b).cfg = s.cfg := rfl
@[simp] theorem State.setIv16_inReset (b : Block) : (s.setIv16 b).inReset = s.inReset := rfl
@[simp] theorem State.setIv16_ie (b : Block) : (s.setIv16 b).ie = s.ie := rfl
@[simp] theorem State.setIv16_done (b : Block) : (s.setIv16 b).done = s.done := rfl
@[simp] theorem State.setIv16_ign (b : Block) : (s.setIv16 b).ign = s.ign := rfl
@[simp] theorem State.setIv16_err (b : Block) : (s.setIv16 b).err = s.err := rfl
@[simp] theorem State.setIv16_src (b : Block) : (s.setIv16 b).src = s.src := rfl
@[simp] theorem State.setIv16_dst (b : Block) : (s.setIv16 b).dst = s.dst := rfl
@[simp] theorem State.setIv16_len (b : Block) : (s.setIv16 b).len = s.len := rfl
@[simp] theorem State.setIv16_cur (b : Block) : (s.setIv16 b).cur = s.cur := rfl
@[simp] theorem State.setIv16_key (b : Block) : (s.setIv16 b).key = s.key := rfl
@[simp] theorem State.setIv16_iv (b : Block) : (s.setIv16 b).iv = setLow16 s.iv b := rfl
@[simp] theorem State.setIv16_eks (b : Block) : (s.setIv16 b).eks = s.eks := rfl
@[simp] theorem State.setIv16_dks (b : Block) : (s.setIv16 b).dks = s.dks := rfl
@[simp] theorem State.setIv16_eksValid (b : Block) : (s.setIv16 b).eksValid = s.eksValid := rfl
@[simp] theorem State.setIv16_dksValid (b : Block) : (s.setIv16 b).dksValid = s.dksValid := rfl
@[simp] theorem State.setIv16_phase (b : Block) : (s.setIv16 b).phase = s.phase := rfl
@[simp] theorem State.setIv16_latch (b : Block) : (s.setIv16 b).latch = s.latch := rfl
@[simp] theorem State.setIv16_work (b : Block) : (s.setIv16 b).work = s.work := rfl
@[simp] theorem State.setIv16_dmem (b : Block) : (s.setIv16 b).dmem = s.dmem := rfl
@[simp] theorem State.setIv16_events (b : Block) : (s.setIv16 b).events = s.events := rfl
@[simp] theorem State.setIv16_resp (b : Block) : (s.setIv16 b).resp = s.resp := rfl
@[simp] theorem State.setIv16_draws (b : Block) : (s.setIv16 b).draws = s.draws := rfl

/-! ### `State.setCur` -/

@[simp] theorem State.setCur_cfg (c : BitVec 8) : (s.setCur c).cfg = s.cfg := rfl
@[simp] theorem State.setCur_inReset (c : BitVec 8) : (s.setCur c).inReset = s.inReset := rfl
@[simp] theorem State.setCur_ie (c : BitVec 8) : (s.setCur c).ie = s.ie := rfl
@[simp] theorem State.setCur_done (c : BitVec 8) : (s.setCur c).done = s.done := rfl
@[simp] theorem State.setCur_ign (c : BitVec 8) : (s.setCur c).ign = s.ign := rfl
@[simp] theorem State.setCur_err (c : BitVec 8) : (s.setCur c).err = s.err := rfl
@[simp] theorem State.setCur_src (c : BitVec 8) : (s.setCur c).src = s.src := rfl
@[simp] theorem State.setCur_dst (c : BitVec 8) : (s.setCur c).dst = s.dst := rfl
@[simp] theorem State.setCur_len (c : BitVec 8) : (s.setCur c).len = s.len := rfl
@[simp] theorem State.setCur_cur (c : BitVec 8) : (s.setCur c).cur = c := rfl
@[simp] theorem State.setCur_key (c : BitVec 8) : (s.setCur c).key = s.key := rfl
@[simp] theorem State.setCur_iv (c : BitVec 8) : (s.setCur c).iv = s.iv := rfl
@[simp] theorem State.setCur_eks (c : BitVec 8) : (s.setCur c).eks = s.eks := rfl
@[simp] theorem State.setCur_dks (c : BitVec 8) : (s.setCur c).dks = s.dks := rfl
@[simp] theorem State.setCur_eksValid (c : BitVec 8) : (s.setCur c).eksValid = s.eksValid := rfl
@[simp] theorem State.setCur_dksValid (c : BitVec 8) : (s.setCur c).dksValid = s.dksValid := rfl
@[simp] theorem State.setCur_phase (c : BitVec 8) : (s.setCur c).phase = s.phase := rfl
@[simp] theorem State.setCur_latch (c : BitVec 8) : (s.setCur c).latch = s.latch := rfl
@[simp] theorem State.setCur_work (c : BitVec 8) : (s.setCur c).work = s.work := rfl
@[simp] theorem State.setCur_dmem (c : BitVec 8) : (s.setCur c).dmem = s.dmem := rfl
@[simp] theorem State.setCur_events (c : BitVec 8) : (s.setCur c).events = s.events := rfl
@[simp] theorem State.setCur_resp (c : BitVec 8) : (s.setCur c).resp = s.resp := rfl
@[simp] theorem State.setCur_draws (c : BitVec 8) : (s.setCur c).draws = s.draws := rfl

/-! ### `State.setEks` -/

@[simp] theorem State.setEks_cfg (w : Schedule) : (s.setEks w).cfg = s.cfg := rfl
@[simp] theorem State.setEks_inReset (w : Schedule) : (s.setEks w).inReset = s.inReset := rfl
@[simp] theorem State.setEks_ie (w : Schedule) : (s.setEks w).ie = s.ie := rfl
@[simp] theorem State.setEks_done (w : Schedule) : (s.setEks w).done = s.done := rfl
@[simp] theorem State.setEks_ign (w : Schedule) : (s.setEks w).ign = s.ign := rfl
@[simp] theorem State.setEks_err (w : Schedule) : (s.setEks w).err = s.err := rfl
@[simp] theorem State.setEks_src (w : Schedule) : (s.setEks w).src = s.src := rfl
@[simp] theorem State.setEks_dst (w : Schedule) : (s.setEks w).dst = s.dst := rfl
@[simp] theorem State.setEks_len (w : Schedule) : (s.setEks w).len = s.len := rfl
@[simp] theorem State.setEks_cur (w : Schedule) : (s.setEks w).cur = s.cur := rfl
@[simp] theorem State.setEks_key (w : Schedule) : (s.setEks w).key = s.key := rfl
@[simp] theorem State.setEks_iv (w : Schedule) : (s.setEks w).iv = s.iv := rfl
@[simp] theorem State.setEks_eks (w : Schedule) : (s.setEks w).eks = w := rfl
@[simp] theorem State.setEks_dks (w : Schedule) : (s.setEks w).dks = s.dks := rfl
@[simp] theorem State.setEks_eksValid (w : Schedule) : (s.setEks w).eksValid = true := rfl
@[simp] theorem State.setEks_dksValid (w : Schedule) : (s.setEks w).dksValid = s.dksValid := rfl
@[simp] theorem State.setEks_phase (w : Schedule) : (s.setEks w).phase = s.phase := rfl
@[simp] theorem State.setEks_latch (w : Schedule) : (s.setEks w).latch = s.latch := rfl
@[simp] theorem State.setEks_work (w : Schedule) : (s.setEks w).work = s.work := rfl
@[simp] theorem State.setEks_dmem (w : Schedule) : (s.setEks w).dmem = s.dmem := rfl
@[simp] theorem State.setEks_events (w : Schedule) : (s.setEks w).events = s.events := rfl
@[simp] theorem State.setEks_resp (w : Schedule) : (s.setEks w).resp = s.resp := rfl
@[simp] theorem State.setEks_draws (w : Schedule) : (s.setEks w).draws = s.draws := rfl

/-! ### `State.setDks` -/

@[simp] theorem State.setDks_cfg (w : Schedule) : (s.setDks w).cfg = s.cfg := rfl
@[simp] theorem State.setDks_inReset (w : Schedule) : (s.setDks w).inReset = s.inReset := rfl
@[simp] theorem State.setDks_ie (w : Schedule) : (s.setDks w).ie = s.ie := rfl
@[simp] theorem State.setDks_done (w : Schedule) : (s.setDks w).done = s.done := rfl
@[simp] theorem State.setDks_ign (w : Schedule) : (s.setDks w).ign = s.ign := rfl
@[simp] theorem State.setDks_err (w : Schedule) : (s.setDks w).err = s.err := rfl
@[simp] theorem State.setDks_src (w : Schedule) : (s.setDks w).src = s.src := rfl
@[simp] theorem State.setDks_dst (w : Schedule) : (s.setDks w).dst = s.dst := rfl
@[simp] theorem State.setDks_len (w : Schedule) : (s.setDks w).len = s.len := rfl
@[simp] theorem State.setDks_cur (w : Schedule) : (s.setDks w).cur = s.cur := rfl
@[simp] theorem State.setDks_key (w : Schedule) : (s.setDks w).key = s.key := rfl
@[simp] theorem State.setDks_iv (w : Schedule) : (s.setDks w).iv = s.iv := rfl
@[simp] theorem State.setDks_eks (w : Schedule) : (s.setDks w).eks = s.eks := rfl
@[simp] theorem State.setDks_dks (w : Schedule) : (s.setDks w).dks = w := rfl
@[simp] theorem State.setDks_eksValid (w : Schedule) : (s.setDks w).eksValid = s.eksValid := rfl
@[simp] theorem State.setDks_dksValid (w : Schedule) : (s.setDks w).dksValid = true := rfl
@[simp] theorem State.setDks_phase (w : Schedule) : (s.setDks w).phase = s.phase := rfl
@[simp] theorem State.setDks_latch (w : Schedule) : (s.setDks w).latch = s.latch := rfl
@[simp] theorem State.setDks_work (w : Schedule) : (s.setDks w).work = s.work := rfl
@[simp] theorem State.setDks_dmem (w : Schedule) : (s.setDks w).dmem = s.dmem := rfl
@[simp] theorem State.setDks_events (w : Schedule) : (s.setDks w).events = s.events := rfl
@[simp] theorem State.setDks_resp (w : Schedule) : (s.setDks w).resp = s.resp := rfl
@[simp] theorem State.setDks_draws (w : Schedule) : (s.setDks w).draws = s.draws := rfl

/-! ### `State.setWork` -/

@[simp] theorem State.setWork_cfg (w : Work) : (s.setWork w).cfg = s.cfg := rfl
@[simp] theorem State.setWork_inReset (w : Work) : (s.setWork w).inReset = s.inReset := rfl
@[simp] theorem State.setWork_ie (w : Work) : (s.setWork w).ie = s.ie := rfl
@[simp] theorem State.setWork_done (w : Work) : (s.setWork w).done = s.done := rfl
@[simp] theorem State.setWork_ign (w : Work) : (s.setWork w).ign = s.ign := rfl
@[simp] theorem State.setWork_err (w : Work) : (s.setWork w).err = s.err := rfl
@[simp] theorem State.setWork_src (w : Work) : (s.setWork w).src = s.src := rfl
@[simp] theorem State.setWork_dst (w : Work) : (s.setWork w).dst = s.dst := rfl
@[simp] theorem State.setWork_len (w : Work) : (s.setWork w).len = s.len := rfl
@[simp] theorem State.setWork_cur (w : Work) : (s.setWork w).cur = s.cur := rfl
@[simp] theorem State.setWork_key (w : Work) : (s.setWork w).key = s.key := rfl
@[simp] theorem State.setWork_iv (w : Work) : (s.setWork w).iv = s.iv := rfl
@[simp] theorem State.setWork_eks (w : Work) : (s.setWork w).eks = s.eks := rfl
@[simp] theorem State.setWork_dks (w : Work) : (s.setWork w).dks = s.dks := rfl
@[simp] theorem State.setWork_eksValid (w : Work) : (s.setWork w).eksValid = s.eksValid := rfl
@[simp] theorem State.setWork_dksValid (w : Work) : (s.setWork w).dksValid = s.dksValid := rfl
@[simp] theorem State.setWork_phase (w : Work) : (s.setWork w).phase = s.phase := rfl
@[simp] theorem State.setWork_latch (w : Work) : (s.setWork w).latch = s.latch := rfl
@[simp] theorem State.setWork_work (w : Work) : (s.setWork w).work = w := rfl
@[simp] theorem State.setWork_dmem (w : Work) : (s.setWork w).dmem = s.dmem := rfl
@[simp] theorem State.setWork_events (w : Work) : (s.setWork w).events = s.events := rfl
@[simp] theorem State.setWork_resp (w : Work) : (s.setWork w).resp = s.resp := rfl
@[simp] theorem State.setWork_draws (w : Work) : (s.setWork w).draws = s.draws := rfl

/-! ### `State.setIgn` -/

@[simp] theorem State.setIgn_cfg : s.setIgn.cfg = s.cfg := rfl
@[simp] theorem State.setIgn_inReset : s.setIgn.inReset = s.inReset := rfl
@[simp] theorem State.setIgn_ie : s.setIgn.ie = s.ie := rfl
@[simp] theorem State.setIgn_done : s.setIgn.done = s.done := rfl
@[simp] theorem State.setIgn_ign : s.setIgn.ign = true := rfl
@[simp] theorem State.setIgn_err : s.setIgn.err = s.err := rfl
@[simp] theorem State.setIgn_src : s.setIgn.src = s.src := rfl
@[simp] theorem State.setIgn_dst : s.setIgn.dst = s.dst := rfl
@[simp] theorem State.setIgn_len : s.setIgn.len = s.len := rfl
@[simp] theorem State.setIgn_cur : s.setIgn.cur = s.cur := rfl
@[simp] theorem State.setIgn_key : s.setIgn.key = s.key := rfl
@[simp] theorem State.setIgn_iv : s.setIgn.iv = s.iv := rfl
@[simp] theorem State.setIgn_eks : s.setIgn.eks = s.eks := rfl
@[simp] theorem State.setIgn_dks : s.setIgn.dks = s.dks := rfl
@[simp] theorem State.setIgn_eksValid : s.setIgn.eksValid = s.eksValid := rfl
@[simp] theorem State.setIgn_dksValid : s.setIgn.dksValid = s.dksValid := rfl
@[simp] theorem State.setIgn_phase : s.setIgn.phase = s.phase := rfl
@[simp] theorem State.setIgn_latch : s.setIgn.latch = s.latch := rfl
@[simp] theorem State.setIgn_work : s.setIgn.work = s.work := rfl
@[simp] theorem State.setIgn_dmem : s.setIgn.dmem = s.dmem := rfl
@[simp] theorem State.setIgn_events : s.setIgn.events = s.events := rfl
@[simp] theorem State.setIgn_resp : s.setIgn.resp = s.resp := rfl
@[simp] theorem State.setIgn_draws : s.setIgn.draws = s.draws := rfl

/-! ### `State.respond` -/

@[simp] theorem State.respond_cfg (r : Response) : (s.respond r).cfg = s.cfg := rfl
@[simp] theorem State.respond_inReset (r : Response) : (s.respond r).inReset = s.inReset := rfl
@[simp] theorem State.respond_ie (r : Response) : (s.respond r).ie = s.ie := rfl
@[simp] theorem State.respond_done (r : Response) : (s.respond r).done = s.done := rfl
@[simp] theorem State.respond_ign (r : Response) : (s.respond r).ign = s.ign := rfl
@[simp] theorem State.respond_err (r : Response) : (s.respond r).err = s.err := rfl
@[simp] theorem State.respond_src (r : Response) : (s.respond r).src = s.src := rfl
@[simp] theorem State.respond_dst (r : Response) : (s.respond r).dst = s.dst := rfl
@[simp] theorem State.respond_len (r : Response) : (s.respond r).len = s.len := rfl
@[simp] theorem State.respond_cur (r : Response) : (s.respond r).cur = s.cur := rfl
@[simp] theorem State.respond_key (r : Response) : (s.respond r).key = s.key := rfl
@[simp] theorem State.respond_iv (r : Response) : (s.respond r).iv = s.iv := rfl
@[simp] theorem State.respond_eks (r : Response) : (s.respond r).eks = s.eks := rfl
@[simp] theorem State.respond_dks (r : Response) : (s.respond r).dks = s.dks := rfl
@[simp] theorem State.respond_eksValid (r : Response) : (s.respond r).eksValid = s.eksValid := rfl
@[simp] theorem State.respond_dksValid (r : Response) : (s.respond r).dksValid = s.dksValid := rfl
@[simp] theorem State.respond_phase (r : Response) : (s.respond r).phase = s.phase := rfl
@[simp] theorem State.respond_latch (r : Response) : (s.respond r).latch = s.latch := rfl
@[simp] theorem State.respond_work (r : Response) : (s.respond r).work = s.work := rfl
@[simp] theorem State.respond_dmem (r : Response) : (s.respond r).dmem = s.dmem := rfl
@[simp] theorem State.respond_events (r : Response) : (s.respond r).events = s.events := rfl
@[simp] theorem State.respond_resp (r : Response) : (s.respond r).resp = r := rfl
@[simp] theorem State.respond_draws (r : Response) : (s.respond r).draws = s.draws := rfl

/-! ### `State.respondFree` -/

@[simp] theorem State.respondFree_cfg (v : Word) : (s.respondFree v).cfg = s.cfg := rfl
@[simp] theorem State.respondFree_inReset (v : Word) : (s.respondFree v).inReset = s.inReset := rfl
@[simp] theorem State.respondFree_ie (v : Word) : (s.respondFree v).ie = s.ie := rfl
@[simp] theorem State.respondFree_done (v : Word) : (s.respondFree v).done = s.done := rfl
@[simp] theorem State.respondFree_ign (v : Word) : (s.respondFree v).ign = s.ign := rfl
@[simp] theorem State.respondFree_err (v : Word) : (s.respondFree v).err = s.err := rfl
@[simp] theorem State.respondFree_src (v : Word) : (s.respondFree v).src = s.src := rfl
@[simp] theorem State.respondFree_dst (v : Word) : (s.respondFree v).dst = s.dst := rfl
@[simp] theorem State.respondFree_len (v : Word) : (s.respondFree v).len = s.len := rfl
@[simp] theorem State.respondFree_cur (v : Word) : (s.respondFree v).cur = s.cur := rfl
@[simp] theorem State.respondFree_key (v : Word) : (s.respondFree v).key = s.key := rfl
@[simp] theorem State.respondFree_iv (v : Word) : (s.respondFree v).iv = s.iv := rfl
@[simp] theorem State.respondFree_eks (v : Word) : (s.respondFree v).eks = s.eks := rfl
@[simp] theorem State.respondFree_dks (v : Word) : (s.respondFree v).dks = s.dks := rfl
@[simp] theorem State.respondFree_eksValid (v : Word) : (s.respondFree v).eksValid = s.eksValid := rfl
@[simp] theorem State.respondFree_dksValid (v : Word) : (s.respondFree v).dksValid = s.dksValid := rfl
@[simp] theorem State.respondFree_phase (v : Word) : (s.respondFree v).phase = s.phase := rfl
@[simp] theorem State.respondFree_latch (v : Word) : (s.respondFree v).latch = s.latch := rfl
@[simp] theorem State.respondFree_work (v : Word) : (s.respondFree v).work = s.work := rfl
@[simp] theorem State.respondFree_dmem (v : Word) : (s.respondFree v).dmem = s.dmem := rfl
@[simp] theorem State.respondFree_events (v : Word) : (s.respondFree v).events = s.events := rfl
@[simp] theorem State.respondFree_resp (v : Word) : (s.respondFree v).resp = .read v := rfl
@[simp] theorem State.respondFree_draws (v : Word) : (s.respondFree v).draws = s.draws + 1 := rfl

/-! ### `State.drawn` -/

@[simp] theorem State.drawn_cfg : s.drawn.cfg = s.cfg := rfl
@[simp] theorem State.drawn_inReset : s.drawn.inReset = s.inReset := rfl
@[simp] theorem State.drawn_ie : s.drawn.ie = s.ie := rfl
@[simp] theorem State.drawn_done : s.drawn.done = s.done := rfl
@[simp] theorem State.drawn_ign : s.drawn.ign = s.ign := rfl
@[simp] theorem State.drawn_err : s.drawn.err = s.err := rfl
@[simp] theorem State.drawn_src : s.drawn.src = s.src := rfl
@[simp] theorem State.drawn_dst : s.drawn.dst = s.dst := rfl
@[simp] theorem State.drawn_len : s.drawn.len = s.len := rfl
@[simp] theorem State.drawn_cur : s.drawn.cur = s.cur := rfl
@[simp] theorem State.drawn_key : s.drawn.key = s.key := rfl
@[simp] theorem State.drawn_iv : s.drawn.iv = s.iv := rfl
@[simp] theorem State.drawn_eks : s.drawn.eks = s.eks := rfl
@[simp] theorem State.drawn_dks : s.drawn.dks = s.dks := rfl
@[simp] theorem State.drawn_eksValid : s.drawn.eksValid = s.eksValid := rfl
@[simp] theorem State.drawn_dksValid : s.drawn.dksValid = s.dksValid := rfl
@[simp] theorem State.drawn_phase : s.drawn.phase = s.phase := rfl
@[simp] theorem State.drawn_latch : s.drawn.latch = s.latch := rfl
@[simp] theorem State.drawn_work : s.drawn.work = s.work := rfl
@[simp] theorem State.drawn_dmem : s.drawn.dmem = s.dmem := rfl
@[simp] theorem State.drawn_events : s.drawn.events = s.events := rfl
@[simp] theorem State.drawn_resp : s.drawn.resp = s.resp := rfl
@[simp] theorem State.drawn_draws : s.drawn.draws = s.draws + 1 := rfl

/-! ### `State.popEvent` -/

@[simp] theorem State.popEvent_cfg : s.popEvent.cfg = s.cfg := rfl
@[simp] theorem State.popEvent_inReset : s.popEvent.inReset = s.inReset := rfl
@[simp] theorem State.popEvent_ie : s.popEvent.ie = s.ie := rfl
@[simp] theorem State.popEvent_done : s.popEvent.done = s.done := rfl
@[simp] theorem State.popEvent_ign : s.popEvent.ign = s.ign := rfl
@[simp] theorem State.popEvent_err : s.popEvent.err = s.err := rfl
@[simp] theorem State.popEvent_src : s.popEvent.src = s.src := rfl
@[simp] theorem State.popEvent_dst : s.popEvent.dst = s.dst := rfl
@[simp] theorem State.popEvent_len : s.popEvent.len = s.len := rfl
@[simp] theorem State.popEvent_cur : s.popEvent.cur = s.cur := rfl
@[simp] theorem State.popEvent_key : s.popEvent.key = s.key := rfl
@[simp] theorem State.popEvent_iv : s.popEvent.iv = s.iv := rfl
@[simp] theorem State.popEvent_eks : s.popEvent.eks = s.eks := rfl
@[simp] theorem State.popEvent_dks : s.popEvent.dks = s.dks := rfl
@[simp] theorem State.popEvent_eksValid : s.popEvent.eksValid = s.eksValid := rfl
@[simp] theorem State.popEvent_dksValid : s.popEvent.dksValid = s.dksValid := rfl
@[simp] theorem State.popEvent_phase : s.popEvent.phase = s.phase := rfl
@[simp] theorem State.popEvent_latch : s.popEvent.latch = s.latch := rfl
@[simp] theorem State.popEvent_work : s.popEvent.work = s.work := rfl
@[simp] theorem State.popEvent_dmem : s.popEvent.dmem = s.dmem := rfl
@[simp] theorem State.popEvent_events : s.popEvent.events = s.events.tail := rfl
@[simp] theorem State.popEvent_resp : s.popEvent.resp = s.resp := rfl
@[simp] theorem State.popEvent_draws : s.popEvent.draws = s.draws := rfl

/-! ### `State.clearCompletion` -/

@[simp] theorem State.clearCompletion_cfg : s.clearCompletion.cfg = s.cfg := rfl
@[simp] theorem State.clearCompletion_inReset : s.clearCompletion.inReset = s.inReset := rfl
@[simp] theorem State.clearCompletion_ie : s.clearCompletion.ie = s.ie := rfl
@[simp] theorem State.clearCompletion_done : s.clearCompletion.done = false := rfl
@[simp] theorem State.clearCompletion_ign : s.clearCompletion.ign = s.ign := rfl
@[simp] theorem State.clearCompletion_err : s.clearCompletion.err = .ok := rfl
@[simp] theorem State.clearCompletion_src : s.clearCompletion.src = s.src := rfl
@[simp] theorem State.clearCompletion_dst : s.clearCompletion.dst = s.dst := rfl
@[simp] theorem State.clearCompletion_len : s.clearCompletion.len = s.len := rfl
@[simp] theorem State.clearCompletion_cur : s.clearCompletion.cur = s.cur := rfl
@[simp] theorem State.clearCompletion_key : s.clearCompletion.key = s.key := rfl
@[simp] theorem State.clearCompletion_iv : s.clearCompletion.iv = s.iv := rfl
@[simp] theorem State.clearCompletion_eks : s.clearCompletion.eks = s.eks := rfl
@[simp] theorem State.clearCompletion_dks : s.clearCompletion.dks = s.dks := rfl
@[simp] theorem State.clearCompletion_eksValid : s.clearCompletion.eksValid = s.eksValid := rfl
@[simp] theorem State.clearCompletion_dksValid : s.clearCompletion.dksValid = s.dksValid := rfl
@[simp] theorem State.clearCompletion_phase : s.clearCompletion.phase = s.phase := rfl
@[simp] theorem State.clearCompletion_latch : s.clearCompletion.latch = s.latch := rfl
@[simp] theorem State.clearCompletion_work : s.clearCompletion.work = s.work := rfl
@[simp] theorem State.clearCompletion_dmem : s.clearCompletion.dmem = s.dmem := rfl
@[simp] theorem State.clearCompletion_events : s.clearCompletion.events = s.events := rfl
@[simp] theorem State.clearCompletion_resp : s.clearCompletion.resp = s.resp := rfl
@[simp] theorem State.clearCompletion_draws : s.clearCompletion.draws = s.draws := rfl

/-! ### `State.raiseError` -/

@[simp] theorem State.raiseError_cfg (e : ErrCode) : (s.raiseError e).cfg = s.cfg := rfl
@[simp] theorem State.raiseError_inReset (e : ErrCode) : (s.raiseError e).inReset = s.inReset := rfl
@[simp] theorem State.raiseError_ie (e : ErrCode) : (s.raiseError e).ie = s.ie := rfl
@[simp] theorem State.raiseError_done (e : ErrCode) : (s.raiseError e).done = true := rfl
@[simp] theorem State.raiseError_ign (e : ErrCode) : (s.raiseError e).ign = s.ign := rfl
@[simp] theorem State.raiseError_err (e : ErrCode) : (s.raiseError e).err = e := rfl
@[simp] theorem State.raiseError_src (e : ErrCode) : (s.raiseError e).src = s.src := rfl
@[simp] theorem State.raiseError_dst (e : ErrCode) : (s.raiseError e).dst = s.dst := rfl
@[simp] theorem State.raiseError_len (e : ErrCode) : (s.raiseError e).len = s.len := rfl
@[simp] theorem State.raiseError_cur (e : ErrCode) : (s.raiseError e).cur = s.cur := rfl
@[simp] theorem State.raiseError_key (e : ErrCode) : (s.raiseError e).key = s.key := rfl
@[simp] theorem State.raiseError_iv (e : ErrCode) : (s.raiseError e).iv = s.iv := rfl
@[simp] theorem State.raiseError_eks (e : ErrCode) : (s.raiseError e).eks = s.eks := rfl
@[simp] theorem State.raiseError_dks (e : ErrCode) : (s.raiseError e).dks = s.dks := rfl
@[simp] theorem State.raiseError_eksValid (e : ErrCode) : (s.raiseError e).eksValid = s.eksValid := rfl
@[simp] theorem State.raiseError_dksValid (e : ErrCode) : (s.raiseError e).dksValid = s.dksValid := rfl
@[simp] theorem State.raiseError_phase (e : ErrCode) : (s.raiseError e).phase = s.phase := rfl
@[simp] theorem State.raiseError_latch (e : ErrCode) : (s.raiseError e).latch = s.latch := rfl
@[simp] theorem State.raiseError_work (e : ErrCode) : (s.raiseError e).work = s.work := rfl
@[simp] theorem State.raiseError_dmem (e : ErrCode) : (s.raiseError e).dmem = s.dmem := rfl
@[simp] theorem State.raiseError_events (e : ErrCode) : (s.raiseError e).events = s.events := rfl
@[simp] theorem State.raiseError_resp (e : ErrCode) : (s.raiseError e).resp = s.resp := rfl
@[simp] theorem State.raiseError_draws (e : ErrCode) : (s.raiseError e).draws = s.draws := rfl

/-! ### `State.start` -/

@[simp] theorem State.start_cfg (i : Instr) (n : Nat) : (s.start i n).cfg = s.cfg := rfl
@[simp] theorem State.start_inReset (i : Instr) (n : Nat) : (s.start i n).inReset = s.inReset := rfl
@[simp] theorem State.start_ie (i : Instr) (n : Nat) : (s.start i n).ie = s.ie := rfl
@[simp] theorem State.start_done (i : Instr) (n : Nat) : (s.start i n).done = s.done := rfl
@[simp] theorem State.start_ign (i : Instr) (n : Nat) : (s.start i n).ign = s.ign := rfl
@[simp] theorem State.start_err (i : Instr) (n : Nat) : (s.start i n).err = s.err := rfl
@[simp] theorem State.start_src (i : Instr) (n : Nat) : (s.start i n).src = s.src := rfl
@[simp] theorem State.start_dst (i : Instr) (n : Nat) : (s.start i n).dst = s.dst := rfl
@[simp] theorem State.start_len (i : Instr) (n : Nat) : (s.start i n).len = s.len := rfl
@[simp] theorem State.start_cur (i : Instr) (n : Nat) : (s.start i n).cur = s.cur := rfl
@[simp] theorem State.start_key (i : Instr) (n : Nat) : (s.start i n).key = s.key := rfl
@[simp] theorem State.start_iv (i : Instr) (n : Nat) : (s.start i n).iv = s.iv := rfl
@[simp] theorem State.start_eks (i : Instr) (n : Nat) : (s.start i n).eks = s.eks := rfl
@[simp] theorem State.start_dks (i : Instr) (n : Nat) : (s.start i n).dks = s.dks := rfl
@[simp] theorem State.start_eksValid (i : Instr) (n : Nat) : (s.start i n).eksValid = s.eksValid := rfl
@[simp] theorem State.start_dksValid (i : Instr) (n : Nat) : (s.start i n).dksValid = s.dksValid := rfl
@[simp] theorem State.start_phase (i : Instr) (n : Nat) : (s.start i n).phase = .run := rfl
@[simp] theorem State.start_latch (i : Instr) (n : Nat) : (s.start i n).latch = s.operands i n := rfl
@[simp] theorem State.start_work (i : Instr) (n : Nat) : (s.start i n).work = s.work := rfl
@[simp] theorem State.start_dmem (i : Instr) (n : Nat) : (s.start i n).dmem = s.dmem := rfl
@[simp] theorem State.start_events (i : Instr) (n : Nat) : (s.start i n).events = s.events := rfl
@[simp] theorem State.start_resp (i : Instr) (n : Nat) : (s.start i n).resp = s.resp := rfl
@[simp] theorem State.start_draws (i : Instr) (n : Nat) : (s.start i n).draws = s.draws := rfl

/-! ### `State.forget` -/

@[simp] theorem State.forget_cfg : s.forget.cfg = s.cfg := rfl
@[simp] theorem State.forget_inReset : s.forget.inReset = s.inReset := rfl
@[simp] theorem State.forget_ie : s.forget.ie = s.ie := rfl
@[simp] theorem State.forget_done : s.forget.done = s.done := rfl
@[simp] theorem State.forget_ign : s.forget.ign = s.ign := rfl
@[simp] theorem State.forget_err : s.forget.err = s.err := rfl
@[simp] theorem State.forget_src : s.forget.src = s.src := rfl
@[simp] theorem State.forget_dst : s.forget.dst = s.dst := rfl
@[simp] theorem State.forget_len : s.forget.len = s.len := rfl
@[simp] theorem State.forget_cur : s.forget.cur = s.cur := rfl
@[simp] theorem State.forget_key : s.forget.key = s.key := rfl
@[simp] theorem State.forget_iv : s.forget.iv = s.iv := rfl
@[simp] theorem State.forget_eks : s.forget.eks = s.eks := rfl
@[simp] theorem State.forget_dks : s.forget.dks = s.dks := rfl
@[simp] theorem State.forget_eksValid : s.forget.eksValid = s.eksValid := rfl
@[simp] theorem State.forget_dksValid : s.forget.dksValid = s.dksValid := rfl
@[simp] theorem State.forget_phase : s.forget.phase = s.phase := rfl
@[simp] theorem State.forget_latch : s.forget.latch = Config.freeLatch s.draws := rfl
@[simp] theorem State.forget_work : s.forget.work = Config.freeWork s.draws := rfl
@[simp] theorem State.forget_dmem : s.forget.dmem = s.dmem := rfl
@[simp] theorem State.forget_events : s.forget.events = s.events := rfl
@[simp] theorem State.forget_resp : s.forget.resp = s.resp := rfl
@[simp] theorem State.forget_draws : s.forget.draws = s.draws + 1 := rfl

/-! ### `State.complete` -/

@[simp] theorem State.complete_cfg : s.complete.cfg = s.cfg := rfl
@[simp] theorem State.complete_inReset : s.complete.inReset = s.inReset := rfl
@[simp] theorem State.complete_ie : s.complete.ie = s.ie := rfl
@[simp] theorem State.complete_done : s.complete.done = true := rfl
@[simp] theorem State.complete_ign : s.complete.ign = s.ign := rfl
@[simp] theorem State.complete_err : s.complete.err = s.err := rfl
@[simp] theorem State.complete_src : s.complete.src = s.src := rfl
@[simp] theorem State.complete_dst : s.complete.dst = s.dst := rfl
@[simp] theorem State.complete_len : s.complete.len = s.len := rfl
@[simp] theorem State.complete_cur : s.complete.cur = s.cur := rfl
@[simp] theorem State.complete_key : s.complete.key = s.key := rfl
@[simp] theorem State.complete_iv : s.complete.iv = s.iv := rfl
@[simp] theorem State.complete_eks : s.complete.eks = s.eks := rfl
@[simp] theorem State.complete_dks : s.complete.dks = s.dks := rfl
@[simp] theorem State.complete_eksValid : s.complete.eksValid = s.eksValid := rfl
@[simp] theorem State.complete_dksValid : s.complete.dksValid = s.dksValid := rfl
@[simp] theorem State.complete_phase : s.complete.phase = .idle := rfl
@[simp] theorem State.complete_latch : s.complete.latch = Config.freeLatch s.draws := rfl
@[simp] theorem State.complete_work : s.complete.work = Config.freeWork s.draws := rfl
@[simp] theorem State.complete_dmem : s.complete.dmem = s.dmem := rfl
@[simp] theorem State.complete_events : s.complete.events = s.events := rfl
@[simp] theorem State.complete_resp : s.complete.resp = s.resp := rfl
@[simp] theorem State.complete_draws : s.complete.draws = s.draws + 1 := rfl

/-! ### `State.encryptInto` -/

@[simp] theorem State.encryptInto_cfg (b : Block) : (s.encryptInto b).cfg = s.cfg := rfl
@[simp] theorem State.encryptInto_inReset (b : Block) : (s.encryptInto b).inReset = s.inReset := rfl
@[simp] theorem State.encryptInto_ie (b : Block) : (s.encryptInto b).ie = s.ie := rfl
@[simp] theorem State.encryptInto_done (b : Block) : (s.encryptInto b).done = s.done := rfl
@[simp] theorem State.encryptInto_ign (b : Block) : (s.encryptInto b).ign = s.ign := rfl
@[simp] theorem State.encryptInto_err (b : Block) : (s.encryptInto b).err = s.err := rfl
@[simp] theorem State.encryptInto_src (b : Block) : (s.encryptInto b).src = s.src := rfl
@[simp] theorem State.encryptInto_dst (b : Block) : (s.encryptInto b).dst = s.dst := rfl
@[simp] theorem State.encryptInto_len (b : Block) : (s.encryptInto b).len = s.len := rfl
@[simp] theorem State.encryptInto_cur (b : Block) : (s.encryptInto b).cur = s.cur := rfl
@[simp] theorem State.encryptInto_key (b : Block) : (s.encryptInto b).key = s.key := rfl
@[simp] theorem State.encryptInto_iv (b : Block) : (s.encryptInto b).iv = s.iv := rfl
@[simp] theorem State.encryptInto_eks (b : Block) : (s.encryptInto b).eks = s.eks := rfl
@[simp] theorem State.encryptInto_dks (b : Block) : (s.encryptInto b).dks = s.dks := rfl
@[simp] theorem State.encryptInto_eksValid (b : Block) : (s.encryptInto b).eksValid = s.eksValid := rfl
@[simp] theorem State.encryptInto_dksValid (b : Block) : (s.encryptInto b).dksValid = s.dksValid := rfl
@[simp] theorem State.encryptInto_phase (b : Block) : (s.encryptInto b).phase = s.phase := rfl
@[simp] theorem State.encryptInto_latch (b : Block) : (s.encryptInto b).latch = s.latch := rfl
@[simp] theorem State.encryptInto_work (b : Block) : (s.encryptInto b).work = { s.work with s := encryptBlock b s.eks, rc := 14 } := rfl
@[simp] theorem State.encryptInto_dmem (b : Block) : (s.encryptInto b).dmem = s.dmem := rfl
@[simp] theorem State.encryptInto_events (b : Block) : (s.encryptInto b).events = s.events := rfl
@[simp] theorem State.encryptInto_resp (b : Block) : (s.encryptInto b).resp = s.resp := rfl
@[simp] theorem State.encryptInto_draws (b : Block) : (s.encryptInto b).draws = s.draws := rfl

/-! ### `State.decryptInto` -/

@[simp] theorem State.decryptInto_cfg (b : Block) : (s.decryptInto b).cfg = s.cfg := rfl
@[simp] theorem State.decryptInto_inReset (b : Block) : (s.decryptInto b).inReset = s.inReset := rfl
@[simp] theorem State.decryptInto_ie (b : Block) : (s.decryptInto b).ie = s.ie := rfl
@[simp] theorem State.decryptInto_done (b : Block) : (s.decryptInto b).done = s.done := rfl
@[simp] theorem State.decryptInto_ign (b : Block) : (s.decryptInto b).ign = s.ign := rfl
@[simp] theorem State.decryptInto_err (b : Block) : (s.decryptInto b).err = s.err := rfl
@[simp] theorem State.decryptInto_src (b : Block) : (s.decryptInto b).src = s.src := rfl
@[simp] theorem State.decryptInto_dst (b : Block) : (s.decryptInto b).dst = s.dst := rfl
@[simp] theorem State.decryptInto_len (b : Block) : (s.decryptInto b).len = s.len := rfl
@[simp] theorem State.decryptInto_cur (b : Block) : (s.decryptInto b).cur = s.cur := rfl
@[simp] theorem State.decryptInto_key (b : Block) : (s.decryptInto b).key = s.key := rfl
@[simp] theorem State.decryptInto_iv (b : Block) : (s.decryptInto b).iv = s.iv := rfl
@[simp] theorem State.decryptInto_eks (b : Block) : (s.decryptInto b).eks = s.eks := rfl
@[simp] theorem State.decryptInto_dks (b : Block) : (s.decryptInto b).dks = s.dks := rfl
@[simp] theorem State.decryptInto_eksValid (b : Block) : (s.decryptInto b).eksValid = s.eksValid := rfl
@[simp] theorem State.decryptInto_dksValid (b : Block) : (s.decryptInto b).dksValid = s.dksValid := rfl
@[simp] theorem State.decryptInto_phase (b : Block) : (s.decryptInto b).phase = s.phase := rfl
@[simp] theorem State.decryptInto_latch (b : Block) : (s.decryptInto b).latch = s.latch := rfl
@[simp] theorem State.decryptInto_work (b : Block) : (s.decryptInto b).work = { s.work with s := decryptBlock b s.dks, rc := 14 } := rfl
@[simp] theorem State.decryptInto_dmem (b : Block) : (s.decryptInto b).dmem = s.dmem := rfl
@[simp] theorem State.decryptInto_events (b : Block) : (s.decryptInto b).events = s.events := rfl
@[simp] theorem State.decryptInto_resp (b : Block) : (s.decryptInto b).resp = s.resp := rfl
@[simp] theorem State.decryptInto_draws (b : Block) : (s.decryptInto b).draws = s.draws := rfl

/-! ### `State.writeStatus` -/

@[simp] theorem State.writeStatus_cfg (v : Word) : (s.writeStatus v).cfg = s.cfg := rfl
@[simp] theorem State.writeStatus_inReset (v : Word) : (s.writeStatus v).inReset = s.inReset := rfl
@[simp] theorem State.writeStatus_ie (v : Word) : (s.writeStatus v).ie = s.ie := rfl
@[simp] theorem State.writeStatus_done (v : Word) : (s.writeStatus v).done = (s.done && !v.getLsbD 1) := rfl
@[simp] theorem State.writeStatus_ign (v : Word) : (s.writeStatus v).ign = (s.ign && !v.getLsbD 2) := rfl
@[simp] theorem State.writeStatus_err (v : Word) : (s.writeStatus v).err = s.err := rfl
@[simp] theorem State.writeStatus_src (v : Word) : (s.writeStatus v).src = s.src := rfl
@[simp] theorem State.writeStatus_dst (v : Word) : (s.writeStatus v).dst = s.dst := rfl
@[simp] theorem State.writeStatus_len (v : Word) : (s.writeStatus v).len = s.len := rfl
@[simp] theorem State.writeStatus_cur (v : Word) : (s.writeStatus v).cur = s.cur := rfl
@[simp] theorem State.writeStatus_key (v : Word) : (s.writeStatus v).key = s.key := rfl
@[simp] theorem State.writeStatus_iv (v : Word) : (s.writeStatus v).iv = s.iv := rfl
@[simp] theorem State.writeStatus_eks (v : Word) : (s.writeStatus v).eks = s.eks := rfl
@[simp] theorem State.writeStatus_dks (v : Word) : (s.writeStatus v).dks = s.dks := rfl
@[simp] theorem State.writeStatus_eksValid (v : Word) : (s.writeStatus v).eksValid = s.eksValid := rfl
@[simp] theorem State.writeStatus_dksValid (v : Word) : (s.writeStatus v).dksValid = s.dksValid := rfl
@[simp] theorem State.writeStatus_phase (v : Word) : (s.writeStatus v).phase = s.phase := rfl
@[simp] theorem State.writeStatus_latch (v : Word) : (s.writeStatus v).latch = s.latch := rfl
@[simp] theorem State.writeStatus_work (v : Word) : (s.writeStatus v).work = s.work := rfl
@[simp] theorem State.writeStatus_dmem (v : Word) : (s.writeStatus v).dmem = s.dmem := rfl
@[simp] theorem State.writeStatus_events (v : Word) : (s.writeStatus v).events = s.events := rfl
@[simp] theorem State.writeStatus_resp (v : Word) : (s.writeStatus v).resp = s.resp := rfl
@[simp] theorem State.writeStatus_draws (v : Word) : (s.writeStatus v).draws = s.draws := rfl

/-! ### `State.writeCtrl` -/

@[simp] theorem State.writeCtrl_cfg (v : Word) : (s.writeCtrl v).cfg = s.cfg := rfl
@[simp] theorem State.writeCtrl_inReset (v : Word) : (s.writeCtrl v).inReset = s.inReset := rfl
@[simp] theorem State.writeCtrl_ie (v : Word) : (s.writeCtrl v).ie = v.getLsbD 0 := rfl
@[simp] theorem State.writeCtrl_done (v : Word) : (s.writeCtrl v).done = s.done := rfl
@[simp] theorem State.writeCtrl_ign (v : Word) : (s.writeCtrl v).ign = s.ign := rfl
@[simp] theorem State.writeCtrl_err (v : Word) : (s.writeCtrl v).err = s.err := rfl
@[simp] theorem State.writeCtrl_src (v : Word) : (s.writeCtrl v).src = s.src := rfl
@[simp] theorem State.writeCtrl_dst (v : Word) : (s.writeCtrl v).dst = s.dst := rfl
@[simp] theorem State.writeCtrl_len (v : Word) : (s.writeCtrl v).len = s.len := rfl
@[simp] theorem State.writeCtrl_cur (v : Word) : (s.writeCtrl v).cur = s.cur := rfl
@[simp] theorem State.writeCtrl_key (v : Word) : (s.writeCtrl v).key = s.key := rfl
@[simp] theorem State.writeCtrl_iv (v : Word) : (s.writeCtrl v).iv = s.iv := rfl
@[simp] theorem State.writeCtrl_eks (v : Word) : (s.writeCtrl v).eks = s.eks := rfl
@[simp] theorem State.writeCtrl_dks (v : Word) : (s.writeCtrl v).dks = s.dks := rfl
@[simp] theorem State.writeCtrl_eksValid (v : Word) : (s.writeCtrl v).eksValid = s.eksValid := rfl
@[simp] theorem State.writeCtrl_dksValid (v : Word) : (s.writeCtrl v).dksValid = s.dksValid := rfl
@[simp] theorem State.writeCtrl_phase (v : Word) : (s.writeCtrl v).phase = s.phase := rfl
@[simp] theorem State.writeCtrl_latch (v : Word) : (s.writeCtrl v).latch = s.latch := rfl
@[simp] theorem State.writeCtrl_work (v : Word) : (s.writeCtrl v).work = s.work := rfl
@[simp] theorem State.writeCtrl_dmem (v : Word) : (s.writeCtrl v).dmem = s.dmem := rfl
@[simp] theorem State.writeCtrl_events (v : Word) : (s.writeCtrl v).events = s.events := rfl
@[simp] theorem State.writeCtrl_resp (v : Word) : (s.writeCtrl v).resp = s.resp := rfl
@[simp] theorem State.writeCtrl_draws (v : Word) : (s.writeCtrl v).draws = s.draws := rfl

/-! ### `State.releaseReset` -/

@[simp] theorem State.releaseReset_cfg : s.releaseReset.cfg = s.cfg := rfl
@[simp] theorem State.releaseReset_inReset : s.releaseReset.inReset = false := rfl
@[simp] theorem State.releaseReset_ie : s.releaseReset.ie = s.ie := rfl
@[simp] theorem State.releaseReset_done : s.releaseReset.done = s.done := rfl
@[simp] theorem State.releaseReset_ign : s.releaseReset.ign = s.ign := rfl
@[simp] theorem State.releaseReset_err : s.releaseReset.err = s.err := rfl
@[simp] theorem State.releaseReset_src : s.releaseReset.src = s.src := rfl
@[simp] theorem State.releaseReset_dst : s.releaseReset.dst = s.dst := rfl
@[simp] theorem State.releaseReset_len : s.releaseReset.len = s.len := rfl
@[simp] theorem State.releaseReset_cur : s.releaseReset.cur = s.cur := rfl
@[simp] theorem State.releaseReset_key : s.releaseReset.key = s.key := rfl
@[simp] theorem State.releaseReset_iv : s.releaseReset.iv = s.iv := rfl
@[simp] theorem State.releaseReset_eks : s.releaseReset.eks = s.eks := rfl
@[simp] theorem State.releaseReset_dks : s.releaseReset.dks = s.dks := rfl
@[simp] theorem State.releaseReset_eksValid : s.releaseReset.eksValid = s.eksValid := rfl
@[simp] theorem State.releaseReset_dksValid : s.releaseReset.dksValid = s.dksValid := rfl
@[simp] theorem State.releaseReset_phase : s.releaseReset.phase = s.phase := rfl
@[simp] theorem State.releaseReset_latch : s.releaseReset.latch = s.latch := rfl
@[simp] theorem State.releaseReset_work : s.releaseReset.work = s.work := rfl
@[simp] theorem State.releaseReset_dmem : s.releaseReset.dmem = s.dmem := rfl
@[simp] theorem State.releaseReset_events : s.releaseReset.events = s.events := rfl
@[simp] theorem State.releaseReset_resp : s.releaseReset.resp = s.resp := rfl
@[simp] theorem State.releaseReset_draws : s.releaseReset.draws = s.draws := rfl

/-! ### `deriveEks` -/

@[simp] theorem deriveEks_cfg : (deriveEks s).cfg = s.cfg := State.setEks_cfg _ _
@[simp] theorem deriveEks_inReset : (deriveEks s).inReset = s.inReset := State.setEks_inReset _ _
@[simp] theorem deriveEks_ie : (deriveEks s).ie = s.ie := State.setEks_ie _ _
@[simp] theorem deriveEks_done : (deriveEks s).done = s.done := State.setEks_done _ _
@[simp] theorem deriveEks_ign : (deriveEks s).ign = s.ign := State.setEks_ign _ _
@[simp] theorem deriveEks_err : (deriveEks s).err = s.err := State.setEks_err _ _
@[simp] theorem deriveEks_src : (deriveEks s).src = s.src := State.setEks_src _ _
@[simp] theorem deriveEks_dst : (deriveEks s).dst = s.dst := State.setEks_dst _ _
@[simp] theorem deriveEks_len : (deriveEks s).len = s.len := State.setEks_len _ _
@[simp] theorem deriveEks_cur : (deriveEks s).cur = s.cur := State.setEks_cur _ _
@[simp] theorem deriveEks_key : (deriveEks s).key = s.key := State.setEks_key _ _
@[simp] theorem deriveEks_iv : (deriveEks s).iv = s.iv := State.setEks_iv _ _
@[simp] theorem deriveEks_eks : (deriveEks s).eks = expandKey s.latch.k := State.setEks_eks _ _
@[simp] theorem deriveEks_dks : (deriveEks s).dks = s.dks := State.setEks_dks _ _
@[simp] theorem deriveEks_eksValid : (deriveEks s).eksValid = true := State.setEks_eksValid _ _
@[simp] theorem deriveEks_dksValid : (deriveEks s).dksValid = s.dksValid := State.setEks_dksValid _ _
@[simp] theorem deriveEks_phase : (deriveEks s).phase = s.phase := State.setEks_phase _ _
@[simp] theorem deriveEks_latch : (deriveEks s).latch = s.latch := State.setEks_latch _ _
@[simp] theorem deriveEks_work : (deriveEks s).work = s.work := State.setEks_work _ _
@[simp] theorem deriveEks_dmem : (deriveEks s).dmem = s.dmem := State.setEks_dmem _ _
@[simp] theorem deriveEks_events : (deriveEks s).events = s.events := State.setEks_events _ _
@[simp] theorem deriveEks_resp : (deriveEks s).resp = s.resp := State.setEks_resp _ _
@[simp] theorem deriveEks_draws : (deriveEks s).draws = s.draws := State.setEks_draws _ _

/-! ### `deriveDks` -/

@[simp] theorem deriveDks_cfg : (deriveDks s).cfg = s.cfg := State.setDks_cfg _ _
@[simp] theorem deriveDks_inReset : (deriveDks s).inReset = s.inReset := State.setDks_inReset _ _
@[simp] theorem deriveDks_ie : (deriveDks s).ie = s.ie := State.setDks_ie _ _
@[simp] theorem deriveDks_done : (deriveDks s).done = s.done := State.setDks_done _ _
@[simp] theorem deriveDks_ign : (deriveDks s).ign = s.ign := State.setDks_ign _ _
@[simp] theorem deriveDks_err : (deriveDks s).err = s.err := State.setDks_err _ _
@[simp] theorem deriveDks_src : (deriveDks s).src = s.src := State.setDks_src _ _
@[simp] theorem deriveDks_dst : (deriveDks s).dst = s.dst := State.setDks_dst _ _
@[simp] theorem deriveDks_len : (deriveDks s).len = s.len := State.setDks_len _ _
@[simp] theorem deriveDks_cur : (deriveDks s).cur = s.cur := State.setDks_cur _ _
@[simp] theorem deriveDks_key : (deriveDks s).key = s.key := State.setDks_key _ _
@[simp] theorem deriveDks_iv : (deriveDks s).iv = s.iv := State.setDks_iv _ _
@[simp] theorem deriveDks_eks : (deriveDks s).eks = s.eks := State.setDks_eks _ _
@[simp] theorem deriveDks_dks : (deriveDks s).dks = expandDecKey s.latch.k := State.setDks_dks _ _
@[simp] theorem deriveDks_eksValid : (deriveDks s).eksValid = s.eksValid := State.setDks_eksValid _ _
@[simp] theorem deriveDks_dksValid : (deriveDks s).dksValid = true := State.setDks_dksValid _ _
@[simp] theorem deriveDks_phase : (deriveDks s).phase = s.phase := State.setDks_phase _ _
@[simp] theorem deriveDks_latch : (deriveDks s).latch = s.latch := State.setDks_latch _ _
@[simp] theorem deriveDks_work : (deriveDks s).work = s.work := State.setDks_work _ _
@[simp] theorem deriveDks_dmem : (deriveDks s).dmem = s.dmem := State.setDks_dmem _ _
@[simp] theorem deriveDks_events : (deriveDks s).events = s.events := State.setDks_events _ _
@[simp] theorem deriveDks_resp : (deriveDks s).resp = s.resp := State.setDks_resp _ _
@[simp] theorem deriveDks_draws : (deriveDks s).draws = s.draws := State.setDks_draws _ _

/-! ### `cbcInit` -/

@[simp] theorem cbcInit_cfg : (cbcInit s).cfg = s.cfg := State.setWork_cfg _ _
@[simp] theorem cbcInit_inReset : (cbcInit s).inReset = s.inReset := State.setWork_inReset _ _
@[simp] theorem cbcInit_ie : (cbcInit s).ie = s.ie := State.setWork_ie _ _
@[simp] theorem cbcInit_done : (cbcInit s).done = s.done := State.setWork_done _ _
@[simp] theorem cbcInit_ign : (cbcInit s).ign = s.ign := State.setWork_ign _ _
@[simp] theorem cbcInit_err : (cbcInit s).err = s.err := State.setWork_err _ _
@[simp] theorem cbcInit_src : (cbcInit s).src = s.src := State.setWork_src _ _
@[simp] theorem cbcInit_dst : (cbcInit s).dst = s.dst := State.setWork_dst _ _
@[simp] theorem cbcInit_len : (cbcInit s).len = s.len := State.setWork_len _ _
@[simp] theorem cbcInit_cur : (cbcInit s).cur = s.cur := State.setWork_cur _ _
@[simp] theorem cbcInit_key : (cbcInit s).key = s.key := State.setWork_key _ _
@[simp] theorem cbcInit_iv : (cbcInit s).iv = s.iv := State.setWork_iv _ _
@[simp] theorem cbcInit_eks : (cbcInit s).eks = s.eks := State.setWork_eks _ _
@[simp] theorem cbcInit_dks : (cbcInit s).dks = s.dks := State.setWork_dks _ _
@[simp] theorem cbcInit_eksValid : (cbcInit s).eksValid = s.eksValid := State.setWork_eksValid _ _
@[simp] theorem cbcInit_dksValid : (cbcInit s).dksValid = s.dksValid := State.setWork_dksValid _ _
@[simp] theorem cbcInit_phase : (cbcInit s).phase = s.phase := State.setWork_phase _ _
@[simp] theorem cbcInit_latch : (cbcInit s).latch = s.latch := State.setWork_latch _ _
@[simp] theorem cbcInit_work : (cbcInit s).work = { s.work with cv := s.latch.iv.lo, bi := 0 } := State.setWork_work _ _
@[simp] theorem cbcInit_dmem : (cbcInit s).dmem = s.dmem := State.setWork_dmem _ _
@[simp] theorem cbcInit_events : (cbcInit s).events = s.events := State.setWork_events _ _
@[simp] theorem cbcInit_resp : (cbcInit s).resp = s.resp := State.setWork_resp _ _
@[simp] theorem cbcInit_draws : (cbcInit s).draws = s.draws := State.setWork_draws _ _

end Sys2Proof.Machine
end

