-- ==== Sys2Proof/Laws/Memory.lean ====
section
/-!
SUPPORT. The laws of DMEM: a read after a write, what a write leaves alone, and that every memory operation keeps the canonical
form of `Memory.wf`.
-/

namespace Sys2Proof.Machine

/-! ### One byte -/

theorem Memory.get?_set_self (m : Memory) (a : Nat) (b : Byte) : Memory.get? (Memory.set m a b) a = some b := by
  induction m with
  | nil => simp [Memory.set, Memory.get?]
  | cons c m ih =>
    obtain ⟨k, v⟩ := c
    simp only [Memory.set]
    split
    · simp [Memory.get?]
    · split
      · simp [Memory.get?]
      · next h1 h2 => simp [Memory.get?, Ne.symm h2, ih]

theorem Memory.get?_set_of_ne (m : Memory) {a x : Nat} (b : Byte) (h : x ≠ a) :
    Memory.get? (Memory.set m a b) x = Memory.get? m x := by
  induction m with
  | nil => simp [Memory.set, Memory.get?, Ne.symm h]
  | cons c m ih =>
    obtain ⟨k, v⟩ := c
    simp only [Memory.set]
    split
    · simp [Memory.get?, Ne.symm h]
    · split
      · next h2 => subst h2; simp [Memory.get?, Ne.symm h]
      · simp only [Memory.get?, ih]

theorem Memory.mem_set {m : Memory} {a : Nat} {b : Byte} {c : Host.Cell} (h : c ∈ Memory.set m a b) :
    c = (a, b) ∨ c ∈ m := by
  induction m with
  | nil => simpa [Memory.set] using h
  | cons d m ih =>
    obtain ⟨k, v⟩ := d
    simp only [Memory.set] at h
    split at h
    · simpa using h
    · split at h
      · rcases List.mem_cons.mp h with h | h
        · exact .inl h
        · exact .inr (List.mem_cons_of_mem _ h)
      · rcases List.mem_cons.mp h with h | h
        · exact .inr (h ▸ List.mem_cons_self)
        · exact (ih h).imp id (List.mem_cons_of_mem _)

theorem Memory.wf_set {bytes : Nat} {m : Memory} {a : Nat} (b : Byte) (h : Memory.wf bytes m) (ha : a < bytes) :
    Memory.wf bytes (Memory.set m a b) := by
  refine ⟨?_, fun c hc => (Memory.mem_set hc).elim (fun e => e ▸ ha) (h.2 c)⟩
  replace h := h.1
  induction m with
  | nil => simp [Memory.set]
  | cons d m ih =>
    obtain ⟨k, v⟩ := d
    rw [List.pairwise_cons] at h
    simp only [Memory.set]
    split
    · next hlt =>
      refine List.pairwise_cons.mpr ⟨fun c hc => ?_, List.pairwise_cons.mpr h⟩
      rcases List.mem_cons.mp hc with rfl | hc
      · exact hlt
      · exact hlt.trans (h.1 c hc)
    · split
      · next heq => subst heq; exact List.pairwise_cons.mpr h
      · next h1 h2 =>
        refine List.pairwise_cons.mpr ⟨fun c hc => ?_, ih h.2⟩
        rcases Memory.mem_set hc with rfl | hc
        · exact Nat.lt_of_le_of_ne (Nat.le_of_not_lt h1) (Ne.symm h2)
        · exact h.1 c hc

/-! ### A run of bytes -/

theorem Memory.wf_store {bytes : Nat} {m : Memory} (a : Nat) (bs : List Byte) (h : Memory.wf bytes m) :
    Memory.wf bytes (Memory.store bytes m a bs) := by
  induction bs generalizing m a with
  | nil => exact h
  | cons b bs ih =>
    rw [Memory.store]
    split
    · next ha => exact ih _ (Memory.wf_set b h ha)
    · exact ih _ h

/-- What a store does to each byte: the stored byte where the store reaches, the old byte elsewhere. -/
theorem Memory.get?_store (bytes : Nat) (m : Memory) (a : Nat) (bs : List Byte) (x : Nat) :
    Memory.get? (Memory.store bytes m a bs) x =
      if a ≤ x ∧ x < a + bs.length ∧ x < bytes then bs[x - a]? else Memory.get? m x := by
  induction bs generalizing m a with
  | nil => simp [Memory.store]; omega
  | cons b bs ih =>
    rw [Memory.store, ih]
    have hl : (b :: bs).length = bs.length + 1 := rfl
    rw [hl]
    rcases Nat.lt_trichotomy x a with hx | hx | hx
    · rw [if_neg (by omega), if_neg (c := a ≤ x ∧ _) (by omega)]
      split
      · exact Memory.get?_set_of_ne m b (by omega)
      · rfl
    · subst hx
      rw [if_neg (by omega)]
      by_cases h : x < bytes
      · rw [if_pos h, if_pos ⟨le_refl _, by omega, h⟩, Memory.get?_set_self, Nat.sub_self]; rfl
      · rw [if_neg h, if_neg (by omega)]
    · have e : x - a = (x - (a + 1)) + 1 := by omega
      by_cases h : a + 1 ≤ x ∧ x < a + 1 + bs.length ∧ x < bytes
      · rw [if_pos h, if_pos ⟨by omega, by omega, h.2.2⟩, e, List.getElem?_cons_succ]
      · rw [if_neg h, if_neg (c := a ≤ x ∧ _) (by omega)]
        split
        · exact Memory.get?_set_of_ne m b (by omega)
        · rfl

/-! ### Reads of the state after its writes -/

theorem State.readByte_congr {s t : State} (h : t.dmem = s.dmem) (x : Nat) : t.readByte x = s.readByte x := by
  rw [State.readByte, State.readByte, h]

theorem blockOf_congr {f g : Nat → Byte} (h : ∀ j, j < 16 → f j = g j) : blockOf f = blockOf g := by
  simp only [blockOf, columnOf, Nat.reduceAdd]
  rw [h 0, h 1, h 2, h 3, h 4, h 5, h 6, h 7, h 8, h 9, h 10, h 11, h 12, h 13, h 14, h 15] <;> decide

theorem blockOf_blockByte (b : Block) : blockOf (blockByte b) = b := rfl

theorem blockByte_blockOf (f : Nat → Byte) {j : Nat} (h : j < 16) : blockByte (blockOf f) j = f j := by
  interval_cases j <;> rfl

theorem State.readBlock_congr {s t : State} {a : Nat} (h : ∀ j, j < 16 → t.readByte (a + j) = s.readByte (a + j)) :
    t.readBlock a = s.readBlock a :=
  blockOf_congr h

/-- What a run of writes does to each byte of DMEM. -/
theorem State.readByte_writeBytes (s : State) (a : Nat) (bs : List Byte) (x : Nat) :
    (s.writeBytes a bs).readByte x =
      if a ≤ x ∧ x < a + bs.length ∧ x < s.cfg.dmemBytes then bs.getD (x - a) 0 else s.readByte x := by
  rw [State.readByte, State.writeBytes_dmem, Memory.get?_store]
  split
  · next h =>
    have hx : x - a < bs.length := by omega
    simp [List.getElem?_eq_getElem hx]
  · rfl

theorem State.readByte_writeByte (s : State) (a : Nat) (b : Byte) (x : Nat) :
    (s.writeByte a b).readByte x = if x = a ∧ x < s.cfg.dmemBytes then b else s.readByte x := by
  rw [State.writeByte, State.readByte_writeBytes]
  by_cases h : x = a ∧ x < s.cfg.dmemBytes
  · obtain ⟨rfl, h⟩ := h; simp [h]
  · rw [if_neg h, if_neg (by simp; omega)]

@[simp] theorem length_columnBytes (c : Column) : (columnBytes c).length = 4 := rfl

@[simp] theorem length_blockBytes (b : Block) : (blockBytes b).length = 16 := rfl

theorem State.readByte_writeBlock (s : State) (a : Nat) (b : Block) (x : Nat) :
    (s.writeBlock a b).readByte x =
      if a ≤ x ∧ x < a + 16 ∧ x < s.cfg.dmemBytes then blockByte b (x - a) else s.readByte x := by
  rw [State.writeBlock, State.readByte_writeBytes, length_blockBytes]; rfl

theorem State.readByte_writeColumn (s : State) (a : Nat) (c : Column) (x : Nat) :
    (s.writeColumn a c).readByte x =
      if a ≤ x ∧ x < a + 4 ∧ x < s.cfg.dmemBytes then (columnBytes c).getD (x - a) 0 else s.readByte x := by
  rw [State.writeColumn, State.readByte_writeBytes, length_columnBytes]

/-- A block read back where it was written. -/
theorem State.readBlock_writeBlock_self (s : State) {a : Nat} (b : Block) (h : a + 16 ≤ s.cfg.dmemBytes) :
    (s.writeBlock a b).readBlock a = b := by
  refine (blockOf_congr fun j hj => ?_).trans (blockOf_blockByte b)
  rw [State.readByte_writeBlock, if_pos (by omega), Nat.add_sub_cancel_left]

/-- A block that a write of another block does not touch. -/
theorem State.readBlock_writeBlock_of_disjoint (s : State) {a x : Nat} (b : Block) (h : x + 16 ≤ a ∨ a + 16 ≤ x) :
    (s.writeBlock a b).readBlock x = s.readBlock x := by
  refine State.readBlock_congr fun j hj => ?_
  rw [State.readByte_writeBlock, if_neg (by omega)]

/-! ### The canonical form through every operation that changes DMEM -/

theorem State.wf_writeBytes {s : State} (a : Nat) (bs : List Byte) (h : Memory.wf s.cfg.dmemBytes s.dmem) :
    Memory.wf (s.writeBytes a bs).cfg.dmemBytes (s.writeBytes a bs).dmem :=
  Memory.wf_store a bs h

theorem State.wf_writeByte {s : State} (a : Nat) (b : Byte) (h : Memory.wf s.cfg.dmemBytes s.dmem) :
    Memory.wf (s.writeByte a b).cfg.dmemBytes (s.writeByte a b).dmem :=
  Memory.wf_store a [b] h

theorem State.wf_writeColumn {s : State} (a : Nat) (c : Column) (h : Memory.wf s.cfg.dmemBytes s.dmem) :
    Memory.wf (s.writeColumn a c).cfg.dmemBytes (s.writeColumn a c).dmem :=
  Memory.wf_store a _ h

theorem State.wf_writeBlock {s : State} (a : Nat) (b : Block) (h : Memory.wf s.cfg.dmemBytes s.dmem) :
    Memory.wf (s.writeBlock a b).cfg.dmemBytes (s.writeBlock a b).dmem :=
  Memory.wf_store a _ h

theorem State.wf_scramble {s : State} (a n : Nat) (h : Memory.wf s.cfg.dmemBytes s.dmem) :
    Memory.wf (State.scramble a n s).cfg.dmemBytes (State.scramble a n s).dmem := by
  induction n generalizing a s with
  | zero => exact h
  | succ n ih => exact ih (a + 1) (s := (s.writeByte a (Config.freeByte s.draws)).drawn) (State.wf_writeByte a _ h)

/-- The reset state's memory is in canonical form. -/
theorem State.wf_reset : Memory.wf State.reset.cfg.dmemBytes State.reset.dmem := by decide

end Sys2Proof.Machine
end

