-- ==== Sys2Proof/Laws/Exec.lean ====
section
/-!
SUPPORT. What each shared operation can do, said once: acceptance, error completion, completion, one transition of a command, the
loops over blocks and bytes, and one step of the machine.
-/

namespace Sys2Proof.Machine

/-! ### One transition of a command -/

/-- The body of each command (R112). -/
def commandBody : Instr → State → State
  | .kse => deriveEks
  | .ksd => deriveDks
  | .encb => bodyEncb
  | .decb => bodyDecb
  | .cbce => bodyCbce
  | .cbcd => bodyCbcd
  | .ctr => bodyCtr
  | .igee => bodyIgee
  | .iged => bodyIged

/-- Every command's meaning is one transition with its own body. -/
theorem exec_eq_runCommand (i : Instr) (s : State) : exec i s = runCommand i (commandBody i) s := by
  cases i <;> rfl

theorem exec_of_idle {i : Instr} {s : State} (h : s.phase = .idle) : exec i s = .next (s.accept i) := by
  rw [exec_eq_runCommand, runCommand, h]

theorem exec_of_run {i : Instr} {s : State} (h : s.phase = .run) (hl : s.latchValid i = true) :
    exec i s = .next (commandBody i s).complete := by
  rw [exec_eq_runCommand, runCommand, h, hl]; rfl

theorem exec_of_unvalidated {i : Instr} {s : State} (h : s.phase = .run) (hl : s.latchValid i = false) :
    exec i s = .fault .latchNotValidated := by
  rw [exec_eq_runCommand, runCommand, h, hl]; rfl

/-- If a command answers a next state, it was accepted while idle, or completed with validated operands while running. -/
theorem exec_next_cases {i : Instr} {s t : State} (h : exec i s = .next t) :
    (s.phase = .idle ∧ t = s.accept i) ∨
      (s.phase = .run ∧ s.latchValid i = true ∧ t = (commandBody i s).complete) := by
  cases hp : s.phase with
  | idle => rw [exec_of_idle hp] at h; exact .inl ⟨rfl, by simpa using h.symm⟩
  | run =>
    cases hl : s.latchValid i with
    | false => rw [exec_of_unvalidated hp hl] at h; cases h
    | true => rw [exec_of_run hp hl] at h; exact .inr ⟨rfl, rfl, by simpa using h.symm⟩

theorem accept_of_valid {i : Instr} {s : State} (h : s.validate i = .ok) :
    s.accept i = s.clearCompletion.start i (byteCount i s.len.toNat) := by
  rw [State.accept, h]

theorem accept_of_invalid {i : Instr} {s : State} (h : s.validate i ≠ .ok) :
    s.accept i = s.clearCompletion.raiseError (s.validate i) := by
  rw [State.accept]; split <;> simp_all

/-- Acceptance starts the command or completes it with an error. -/
theorem accept_cases (i : Instr) (s : State) :
    (s.validate i = .ok ∧ s.accept i = s.clearCompletion.start i (byteCount i s.len.toNat)) ∨
      (s.validate i ≠ .ok ∧ s.accept i = s.clearCompletion.raiseError (s.validate i)) := by
  by_cases h : s.validate i = .ok
  · exact .inl ⟨h, accept_of_valid h⟩
  · exact .inr ⟨h, accept_of_invalid h⟩

/-! ### Loops -/

/-- What every pass keeps, the whole loop keeps. -/
theorem repeatBody_induct {P : State → Prop} {body : State → State} (hb : ∀ s, P s → P (body s)) (n : Nat) (s : State)
    (h : P s) : P (repeatBody body n s) := by
  induction n generalizing s with
  | zero => exact h
  | succ n ih => exact ih _ (hb s h)

theorem repeatBody_succ (body : State → State) (n : Nat) (s : State) :
    repeatBody body (n + 1) s = body (repeatBody body n s) := by
  induction n generalizing s with
  | zero => rfl
  | succ n ih => rw [repeatBody, ih, repeatBody]

/-- `t` is `s` but for DMEM and the working registers. -/
def DataOnly (s t : State) : Prop :=
  t = { s with dmem := t.dmem, work := t.work }

theorem DataOnly.refl (s : State) : DataOnly s s := rfl

theorem DataOnly.trans {s t u : State} (h₁ : DataOnly s t) (h₂ : DataOnly t u) : DataOnly s u := by
  rw [DataOnly] at *; rw [h₂, h₁]

theorem cbcEncBlock_dataOnly (s : State) : DataOnly s (cbcEncBlock s) := rfl

theorem cbcDecBlock_dataOnly (s : State) : DataOnly s (cbcDecBlock s) := rfl

theorem igeEncBlock_dataOnly (s : State) : DataOnly s (igeBlock State.encryptInto s) := rfl

theorem igeDecBlock_dataOnly (s : State) : DataOnly s (igeBlock State.decryptInto s) := rfl

theorem ctrByte_dataOnly (i c : Nat) (s : State) : DataOnly s (ctrByte i c s) := rfl

theorem ctrRefill_dataOnly (s : State) : DataOnly s (ctrRefill s) := rfl

seal encryptBlock in
theorem ctrInit_dataOnly (s : State) : DataOnly s (ctrInit s) := rfl

theorem repeatBody_dataOnly {body : State → State} (hb : ∀ s, DataOnly s (body s)) (n : Nat) (s : State) :
    DataOnly s (repeatBody body n s) :=
  repeatBody_induct (P := DataOnly s) (fun t h => h.trans (hb t)) n s (.refl s)

/-- What the loop of CTR changes: DMEM and the working registers, and at its end the IV and the cursor. -/
theorem ctrLoop_frame (n i c : Nat) (s : State) :
    ∃ t, DataOnly s t ∧ ∃ c', ctrLoop n i c s = (t.setIv16 t.work.cv).setCur c' := by
  induction n generalizing i c s with
  | zero => exact ⟨s, .refl s, _, rfl⟩
  | succ n ih =>
    rw [ctrLoop]
    split
    · obtain ⟨t, ht, c', e⟩ := ih (i + 1) 0 (ctrRefill (ctrByte i c s))
      exact ⟨t, ((ctrByte_dataOnly i c s).trans (ctrRefill_dataOnly _)).trans ht, c', e⟩
    · obtain ⟨t, ht, c', e⟩ := ih (i + 1) (c + 1) (ctrByte i c s)
      exact ⟨t, (ctrByte_dataOnly i c s).trans ht, c', e⟩

/-! ### What no body changes -/

seal expandKey expandDecKey encryptBlock decryptBlock in
/-- No body changes the configuration, the reset input, `CTRL`, `DONE`, `IGN`, `ERR`, `SRC`, `DST`, `LEN`, `KEYk`, `PHASE`, the
latches, the pending inputs, the bus's answer or the count of free values. -/
theorem commandBody_frame (i : Instr) (s : State) :
    commandBody i s =
      { s with
        iv := (commandBody i s).iv, cur := (commandBody i s).cur, eks := (commandBody i s).eks
        dks := (commandBody i s).dks, eksValid := (commandBody i s).eksValid, dksValid := (commandBody i s).dksValid
        work := (commandBody i s).work, dmem := (commandBody i s).dmem } := by
  cases i with
  | kse => rfl
  | ksd => rfl
  | encb => rfl
  | decb => rfl
  | cbce =>
    have h := repeatBody_dataOnly cbcEncBlock_dataOnly (s.latch.n.toNat / 16) (cbcInit (deriveEks s))
    simp only [commandBody, bodyCbce]
    rw [DataOnly] at h
    rw [h]; rfl
  | cbcd =>
    have h := repeatBody_dataOnly cbcDecBlock_dataOnly (s.latch.n.toNat / 16) (cbcInit (deriveDks s))
    simp only [commandBody, bodyCbcd]
    rw [DataOnly] at h
    rw [h]; rfl
  | ctr =>
    obtain ⟨t, ht, c', e⟩ := ctrLoop_frame s.latch.n.toNat 0 s.latch.cur.toNat (ctrInit (deriveEks s))
    simp only [commandBody, bodyCtr]
    replace ht := (ctrInit_dataOnly (deriveEks s)).trans ht
    rw [e]
    rw [DataOnly] at ht
    generalize t.dmem = m, t.work = w at ht
    subst ht; rfl
  | igee =>
    have h := repeatBody_dataOnly igeEncBlock_dataOnly (s.latch.n.toNat / 16)
      (igeInit s.latch.iv.lo s.latch.iv.hi (deriveEks s))
    simp only [commandBody, bodyIgee]
    rw [DataOnly] at h
    rw [h]; rfl
  | iged =>
    have h := repeatBody_dataOnly igeDecBlock_dataOnly (s.latch.n.toNat / 16)
      (igeInit s.latch.iv.hi s.latch.iv.lo (deriveDks s))
    simp only [commandBody, bodyIged]
    rw [DataOnly] at h
    rw [h]; rfl

/-! ### Completion -/

/-- Completion changes `PHASE` and `DONE`, and leaves the latches and the working registers free (R116, R55). -/
theorem complete_eq (s : State) :
    s.complete =
      { s with
        latch := Config.freeLatch s.draws, work := Config.freeWork s.draws, draws := s.draws + 1
        phase := .idle, done := true } := rfl

theorem readByte_complete (s : State) (x : Nat) : s.complete.readByte x = s.readByte x := rfl

theorem exec_run_next {i : Instr} {s t : State} (hp : s.phase = .run) (h : exec i s = .next t) :
    s.latchValid i = true ∧ t = (commandBody i s).complete := by
  rcases exec_next_cases h with ⟨h1, _⟩ | ⟨_, h2, h3⟩
  · rw [hp] at h1; cases h1
  · exact ⟨h2, h3⟩

/-! ### DMEM through a body: its canonical form, and the bytes it leaves alone -/

/-- DMEM is in canonical form. -/
def DmemWf (s : State) : Prop :=
  Memory.wf s.cfg.dmemBytes s.dmem

theorem dmemWf_ctrLoop {s : State} (n i c : Nat) (h : DmemWf s) : DmemWf (ctrLoop n i c s) := by
  induction n generalizing i c s with
  | zero => exact h
  | succ n ih =>
    rw [ctrLoop]
    have hb : DmemWf (ctrByte i c s) := State.wf_writeByte _ _ h
    split
    · exact ih (s := ctrRefill (ctrByte i c s)) _ _ hb
    · exact ih _ _ hb

seal encryptBlock in
theorem dmemWf_cbcEncBlock (s : State) (h : DmemWf s) : DmemWf (cbcEncBlock s) := Memory.wf_store _ _ h

seal decryptBlock in
theorem dmemWf_cbcDecBlock (s : State) (h : DmemWf s) : DmemWf (cbcDecBlock s) := Memory.wf_store _ _ h

seal encryptBlock in
theorem dmemWf_igeEncBlock (s : State) (h : DmemWf s) : DmemWf (igeBlock State.encryptInto s) := Memory.wf_store _ _ h

seal decryptBlock in
theorem dmemWf_igeDecBlock (s : State) (h : DmemWf s) : DmemWf (igeBlock State.decryptInto s) := Memory.wf_store _ _ h

seal expandKey expandDecKey encryptBlock decryptBlock in
/-- Every command keeps the canonical form of DMEM. -/
theorem dmemWf_commandBody (i : Instr) (s : State) (h : DmemWf s) : DmemWf (commandBody i s) := by
  have h1 : DmemWf (deriveEks s) := h
  have h2 : DmemWf (deriveDks s) := h
  cases i with
  | kse => exact h
  | ksd => exact h
  | encb => exact State.wf_writeBlock (s := s.encryptInto _) _ _ h
  | decb => exact State.wf_writeBlock (s := s.decryptInto _) _ _ h
  | cbce =>
    have := repeatBody_induct dmemWf_cbcEncBlock (s.latch.n.toNat / 16) (cbcInit (deriveEks s)) h1
    simp only [commandBody, bodyCbce]; exact this
  | cbcd =>
    have := repeatBody_induct dmemWf_cbcDecBlock (s.latch.n.toNat / 16) (cbcInit (deriveDks s)) h2
    simp only [commandBody, bodyCbcd]; exact this
  | ctr => exact dmemWf_ctrLoop _ _ _ (s := ctrInit (deriveEks s)) h
  | igee =>
    have := repeatBody_induct dmemWf_igeEncBlock (s.latch.n.toNat / 16)
      (igeInit s.latch.iv.lo s.latch.iv.hi (deriveEks s)) h1
    simp only [commandBody, bodyIgee]; exact this
  | iged =>
    have := repeatBody_induct dmemWf_igeDecBlock (s.latch.n.toNat / 16)
      (igeInit s.latch.iv.hi s.latch.iv.lo (deriveDks s)) h2
    simp only [commandBody, bodyIged]; exact this

/-- A pass over block `BI`: it changes only DMEM and the working registers, moves `BI` on, and leaves every byte outside its block of
the destination alone. -/
def BlockPass (s t : State) : Prop :=
  DataOnly s t ∧ t.work.bi = s.work.bi + 1 ∧
    ∀ x, ¬ (s.latch.dst.toNat + 16 * s.work.bi ≤ x ∧ x < s.latch.dst.toNat + 16 * s.work.bi + 16) →
      t.readByte x = s.readByte x

theorem readByte_writeBlock_outside (s : State) (a : Nat) (b : Block) {x : Nat} (h : ¬ (a ≤ x ∧ x < a + 16)) :
    (s.writeBlock a b).readByte x = s.readByte x := by
  rw [State.readByte_writeBlock, if_neg (by omega)]

seal encryptBlock in
theorem cbcEncBlock_pass (s : State) : BlockPass s (cbcEncBlock s) :=
  ⟨rfl, rfl, fun _ hx => readByte_writeBlock_outside (s.encryptInto _) _ _ hx⟩

seal decryptBlock in
theorem cbcDecBlock_pass (s : State) : BlockPass s (cbcDecBlock s) :=
  ⟨rfl, rfl, fun _ hx => readByte_writeBlock_outside (s.decryptInto _) _ _ hx⟩

seal encryptBlock in
theorem igeEncBlock_pass (s : State) : BlockPass s (igeBlock State.encryptInto s) :=
  ⟨rfl, rfl, fun _ hx => readByte_writeBlock_outside (s.encryptInto _) _ _ hx⟩

seal decryptBlock in
theorem igeDecBlock_pass (s : State) : BlockPass s (igeBlock State.decryptInto s) :=
  ⟨rfl, rfl, fun _ hx => readByte_writeBlock_outside (s.decryptInto _) _ _ hx⟩

/-- `n` passes from block 0 on leave every byte outside the first `n` blocks of the destination alone. -/
theorem repeatBody_pass {body : State → State} (hb : ∀ s, BlockPass s (body s)) (n : Nat) {s : State}
    (h : s.work.bi = 0) :
    DataOnly s (repeatBody body n s) ∧ (repeatBody body n s).work.bi = n ∧
      ∀ x, ¬ (s.latch.dst.toNat ≤ x ∧ x < s.latch.dst.toNat + 16 * n) →
        (repeatBody body n s).readByte x = s.readByte x := by
  induction n with
  | zero => exact ⟨.refl s, h, fun _ _ => rfl⟩
  | succ n ih =>
    rw [repeatBody_succ]
    obtain ⟨i1, i2, i3⟩ := ih
    obtain ⟨b1, b2, b3⟩ := hb (repeatBody body n s)
    have hl : (repeatBody body n s).latch = s.latch := by rw [i1]
    refine ⟨i1.trans b1, by rw [b2, i2], fun x hx => ?_⟩
    rw [b3 x (by rw [hl, i2]; omega), i3 x (by omega)]

/-- The loop of CTR over `n` bytes from byte `i` on leaves every byte outside those of the destination alone. -/
theorem ctrLoop_outside (n i c : Nat) (s : State) {x : Nat}
    (hx : ¬ (s.latch.dst.toNat + i ≤ x ∧ x < s.latch.dst.toNat + i + n)) :
    (ctrLoop n i c s).readByte x = s.readByte x := by
  induction n generalizing i c s with
  | zero => rfl
  | succ n ih =>
    have e : (ctrByte i c s).readByte x = s.readByte x := by
      rw [ctrByte, State.readByte_writeByte, if_neg (by omega)]
    have hx' : ¬ (s.latch.dst.toNat + (i + 1) ≤ x ∧ x < s.latch.dst.toNat + (i + 1) + n) := by omega
    rw [ctrLoop]; split
    · rw [ih (i + 1) 0 (ctrRefill (ctrByte i c s)) hx']; exact e
    · rw [ih (i + 1) (c + 1) (ctrByte i c s) hx']; exact e

end Sys2Proof.Machine
end

