-- ==== Sys2Proof/Laws/Bus.lean ====
section
/-!
SUPPORT. What the bus operations and one step can do, said once: the frame of every read and write, the one action that each kind of
input leads to, and the cases of a step that answers a next state.
-/

namespace Sys2Proof.Machine

theorem windowOffset_base (c : Config) {off : Nat} (h : off < 0x20000) : windowOffset c (c.base + off) = some off := by
  simp [windowOffset, h]

theorem phase_of_not_busy {s : State} (h : ¬ s.busy = true) : s.phase = .idle := by
  cases hp : s.phase <;> simp_all [State.busy]

theorem phase_of_busy {s : State} (h : s.busy = true) : s.phase = .run := by
  cases hp : s.phase <;> simp_all [State.busy]

/-- `t` is `s` but for the bus's answer and the count of free values. -/
def AnswerOnly (s t : State) : Prop :=
  t = { s with resp := t.resp, draws := t.draws }

theorem respond_answerOnly (s : State) (r : Response) : AnswerOnly s (s.respond r) := rfl

theorem respondFree_answerOnly (s : State) (v : Word) : AnswerOnly s (s.respondFree v) := rfl

/-- A 32-bit read has no side effect but its answer (R88). -/
theorem read32_answerOnly (s : State) (off : Nat) : AnswerOnly s (s.read32 off) := by
  rw [State.read32]; split
  · exact respondFree_answerOnly s _
  · exact respond_answerOnly s _

/-- An 8-bit read has no side effect but its answer (R88). -/
theorem read8_answerOnly (s : State) (off : Nat) : AnswerOnly s (s.read8 off) := by
  rw [State.read8]; split
  · exact respondFree_answerOnly s _
  · split
    · exact respond_answerOnly s _
    · exact respond_answerOnly s _

/-- An access in reset has no effect but its answer (R300). -/
theorem accessInReset_answerOnly (s : State) (a : Access) : AnswerOnly s (s.accessInReset a) := by
  rw [State.accessInReset.eq_def]; split
  · exact respondFree_answerOnly s _
  · exact respondFree_answerOnly s _
  · exact respond_answerOnly s _

/-- What a host access leads to, from state `s`: everything `State.hostAccess` can do. -/
inductive HostEffect (s : State) : Access → Action → Prop
  /-- Reads, refused shapes, other addresses, and every access in reset. -/
  | answer (a : Access) (t : State) (h : AnswerOnly s t) : HostEffect s a (.stay t)
  /-- A write to `STATUS` (R35). -/
  | status (v : Word) (hr : s.inReset = false) :
    HostEffect s (.write 32 (s.cfg.base + 0x008) v) (.stay ((s.respond .wrote).writeStatus v))
  /-- Any other write that the bus accepts while a command runs (R276). -/
  | ignored (w off : Nat) (v : Word) (hr : s.inReset = false) (hp : s.phase = .run) (ho : off ≠ 0x008) :
    HostEffect s (.write w (s.cfg.base + off) v) (.stay (s.respond .wrote).setIgn)
  /-- A write to `CMD` while idle (R114). -/
  | command (v : Word) (hr : s.inReset = false) (hp : s.phase = .idle) :
    HostEffect s (.write 32 (s.cfg.base + 0x00C) v) ((s.respond .wrote).submit v)
  /-- A 32-bit write to another port while idle. -/
  | port (off : Nat) (v : Word) (hr : s.inReset = false) (hp : s.phase = .idle) (ho : off < 0x20000)
    (hs : portOf off ≠ .status) (hc : portOf off ≠ .cmd) :
    HostEffect s (.write 32 (s.cfg.base + off) v) (.stay ((s.respond .wrote).writePort v (portOf off)))
  /-- An 8-bit write to the DMEM window while idle. -/
  | byte (off : Nat) (v : Word) (hr : s.inReset = false) (hp : s.phase = .idle) (ho : 0x10000 ≤ off) :
    HostEffect s (.write 8 (s.cfg.base + off) v)
      (.stay ((s.respond .wrote).writeByte (off - 0x10000) (v.extractLsb' 0 8)))

theorem portOf_eq_status {off : Nat} (h : portOf off = .status) : off = 0x008 := by
  by_contra hn
  unfold portOf at h
  rw [if_neg (c := off = 0x008) hn] at h
  revert h
  generalize off - 0x10000 = a, 0x10000 = b
  split_ifs <;> intro h <;> cases h

theorem portOf_eq_cmd {off : Nat} (h : portOf off = .cmd) : off = 0x00C := by
  by_contra hn
  unfold portOf at h
  rw [if_neg (c := off = 0x00C) hn] at h
  revert h
  generalize off - 0x10000 = a, 0x10000 = b
  split_ifs <;> intro h <;> cases h

theorem eq_base_add_of_windowOffset {c : Config} {addr off : Nat} (h : windowOffset c addr = some off) :
    addr = c.base + off ∧ off < 0x20000 := by
  unfold windowOffset at h; split at h
  · cases h; omega
  · cases h

theorem hostAccess_effect (s : State) (a : Access) : HostEffect s a (s.hostAccess a) := by
  rw [State.hostAccess]; split
  · exact .answer a _ (respond_answerOnly s _)
  · next off ho =>
    obtain ⟨ha, hlt⟩ := eq_base_add_of_windowOffset ho
    split
    · exact .answer a _ (accessInReset_answerOnly s a)
    · next hr =>
      replace hr : s.inReset = false := by simpa using hr
      cases a with
      | read w addr =>
        rw [State.accessAt]; split
        · split
          · exact .answer _ _ (read32_answerOnly s off)
          · exact .answer _ _ (read8_answerOnly s off)
        · exact .answer _ _ (respond_answerOnly s _)
      | write w addr v =>
        replace ha : addr = s.cfg.base + off := ha
        subst ha
        rw [State.accessAt]; split
        · next hsh =>
          split
          · next hw =>
            subst hw
            rw [State.write32]; split
            · next hst => rw [portOf_eq_status hst]; exact .status v hr
            · next hst =>
              split
              · next hb =>
                refine .ignored 32 off v hr (phase_of_busy hb) ?_
                rintro rfl; exact hst rfl
              · next hb =>
                have hp := phase_of_not_busy hb
                split
                · next hc => rw [portOf_eq_cmd hc]; exact .command v hr hp
                · next hc => exact .port off v hr hp hlt hst hc
          · next hw =>
            have h8 : w = 8 ∧ 0x10000 ≤ off := by simpa [shapeAccepted, hw] using hsh
            obtain ⟨rfl, h8⟩ := h8
            rw [State.write8]; split
            · next hb => exact .ignored 8 off v hr (phase_of_busy hb) (by omega)
            · next hb => exact .byte off v hr (phase_of_not_busy hb) h8
        · exact .answer _ _ (respond_answerOnly s _)

/-- A word written to `CMD` while idle: a command's acceptance, or an error completion. -/
theorem submit_cases (s : State) (v : Word) :
    (∃ i, decode v = .ok i ∧ s.submit v = .run i s) ∨
      (∃ e, decode v = .error e ∧ s.submit v = .stay (s.clearCompletion.raiseError .illegalCmd)) := by
  rw [State.submit]; split
  · next i h => exact .inl ⟨i, h, rfl⟩
  · next e h => exact .inr ⟨e, h, rfl⟩

/-- A 32-bit write to a port changes neither the configuration, the reset input, `PHASE`, `DONE`, `ERR`, the schedules, nor what
belongs to a running command; a DMEM write keeps the canonical form. -/
theorem writePort_frame (s : State) (v : Word) (p : Port) :
    ∃ m : Memory, (Memory.wf s.cfg.dmemBytes s.dmem → Memory.wf s.cfg.dmemBytes m) ∧
      s.writePort v p =
        { s with
          ie := (s.writePort v p).ie, done := (s.writePort v p).done, ign := (s.writePort v p).ign
          src := (s.writePort v p).src, dst := (s.writePort v p).dst, len := (s.writePort v p).len
          cur := (s.writePort v p).cur, key := (s.writePort v p).key, iv := (s.writePort v p).iv, dmem := m } := by
  cases p <;> try exact ⟨s.dmem, id, rfl⟩
  rw [State.writePort]; split
  · exact ⟨_, Memory.wf_store _ _, rfl⟩
  · exact ⟨s.dmem, id, rfl⟩

theorem scramble_frame (a n : Nat) (s : State) :
    State.scramble a n s = { s with dmem := (State.scramble a n s).dmem, draws := (State.scramble a n s).draws } := by
  induction n generalizing a s with
  | zero => rfl
  | succ n ih => rw [State.scramble, ih]; rfl

/-- A step that answers a next state does one of these. -/
theorem step_cases {s t : State} (h : step s = .next t) :
    ((s.events = [] ∨ s.events.head? = some .engine) ∧ s.phase = .idle ∧ t = s.popEvent) ∨
    ((s.events = [] ∨ s.events.head? = some .engine) ∧ s.phase = .run ∧ s.latchValid s.latch.op = true ∧
      t = (commandBody s.latch.op s.popEvent).complete) ∨
    (∃ a rest, s.events = .host a :: rest ∧
      ((∃ i, s.popEvent.hostAccess a = .run i (s.popEvent.respond .wrote) ∧ s.phase = .idle ∧ s.inReset = false ∧
          (∃ v, a = .write 32 (s.cfg.base + 0x00C) v ∧ decode v = .ok i) ∧
          t = (s.popEvent.respond .wrote).accept i) ∨
        s.popEvent.hostAccess a = .stay t)) ∨
    (s.events.head? = some .assertReset ∧ t = s.popEvent.assertReset) ∨
    (s.events.head? = some .releaseReset ∧ t = s.popEvent.releaseReset) := by
  have engine : ∀ u : State, u.phase = s.phase → u.latch = s.latch → u.cfg = s.cfg →
      (match u.engineTurn with | .stay t => Host.Outcome.next t | .run i t => exec i t) = .next t →
      (s.phase = .idle ∧ t = u) ∨
        (s.phase = .run ∧ s.latchValid s.latch.op = true ∧ t = (commandBody s.latch.op u).complete) := by
    intro u hp hl hc h
    rw [State.engineTurn] at h
    cases hps : s.phase with
    | idle => rw [hps] at hp; rw [hp] at h; cases h; exact .inl ⟨rfl, rfl⟩
    | run =>
      rw [hps] at hp; rw [hp] at h
      rcases exec_next_cases (show exec u.latch.op u = .next t from h) with ⟨h1, _⟩ | ⟨_, h2, h3⟩
      · rw [hp] at h1; cases h1
      · rw [State.latchValid, hl, hc] at h2; rw [hl] at h3
        exact .inr ⟨rfl, h2, h3⟩
  rw [step, State.nextAction] at h
  cases he : s.events with
  | nil =>
    have hs : s.popEvent = s := by
      rw [State.popEvent, he]; show { s with events := [] } = s
      rw [← he]
    rw [he] at h
    rcases engine s rfl rfl rfl h with h | h
    · exact .inl ⟨.inl rfl, h.1, by rw [hs]; exact h.2⟩
    · refine .inr (.inl ⟨.inl rfl, ?_⟩); rw [hs]; exact h
  | cons e rest =>
    rw [he] at h
    cases e with
    | engine =>
      rcases engine s.popEvent rfl rfl rfl h with h | h
      · exact .inl ⟨.inr rfl, h⟩
      · exact .inr (.inl ⟨.inr rfl, h⟩)
    | host a =>
      refine .inr (.inr (.inl ⟨a, rest, rfl, ?_⟩))
      replace h : (match s.popEvent.hostAccess a with | .stay t => Host.Outcome.next t | .run i t => exec i t) = .next t := h
      have ha := hostAccess_effect s.popEvent a
      generalize s.popEvent.hostAccess a = act at *
      cases ha with
      | command v hr hp =>
        rcases submit_cases (s.popEvent.respond .wrote) v with ⟨i, hd, e⟩ | ⟨_, _, e⟩
        · rw [e] at h
          rcases exec_next_cases (show exec i (s.popEvent.respond .wrote) = .next t from h) with ⟨_, h2⟩ | ⟨h1, _⟩
          · exact .inl ⟨i, e, hp, hr, ⟨v, rfl, hd⟩, h2⟩
          · rw [show (s.popEvent.respond .wrote).phase = s.popEvent.phase from rfl, hp] at h1; cases h1
        · rw [e] at h ⊢; cases h; exact .inr rfl
      | _ => cases h; exact .inr rfl
    | assertReset => cases h; exact .inr (.inr (.inr (.inl ⟨rfl, rfl⟩)))
    | releaseReset => cases h; exact .inr (.inr (.inr (.inr ⟨rfl, rfl⟩)))

/-! ### The step of an access that the bus performs -/

theorem nextAction_host {s : State} {a : Access} {rest : List Event} (he : s.events = .host a :: rest) :
    s.nextAction = ({ s with events := rest } : State).hostAccess a := by
  rw [State.nextAction, he]
  show s.popEvent.hostAccess a = _
  rw [State.popEvent, he]; rfl

theorem portOf_reserved {off : Nat} (h1 : 0x060 ≤ off) (h2 : off < 0x10000) : portOf off = .reserved := by
  unfold portOf
  iterate 10 rw [if_neg (by omega)]
  rw [if_pos h2]

theorem portOf_dmem (a : Nat) : portOf (0x10000 + a) = .dmem a := by
  unfold portOf
  iterate 11 rw [if_neg (by omega)]
  rw [Nat.add_sub_cancel_left]

/-- A 32-bit read at an aligned offset, out of reset. -/
theorem step_read32 {s : State} {off : Nat} {rest : List Event} (hr : s.inReset = false) (ho : off < 0x20000)
    (h4 : off % 4 = 0) (he : s.events = .host (.read 32 (s.cfg.base + off)) :: rest) :
    step s = .next (({ s with events := rest } : State).read32 off) := by
  rw [step, nextAction_host he, State.hostAccess, Access.addr]
  rw [show ({ s with events := rest } : State).cfg = s.cfg from rfl, windowOffset_base _ ho]
  simp [hr, State.accessAt, shapeAccepted, h4]

/-- An 8-bit read in the DMEM window, out of reset. -/
theorem step_read8 {s : State} {off : Nat} {rest : List Event} (hr : s.inReset = false) (ho : off < 0x20000)
    (hd : 0x10000 ≤ off) (he : s.events = .host (.read 8 (s.cfg.base + off)) :: rest) :
    step s = .next (({ s with events := rest } : State).read8 off) := by
  rw [step, nextAction_host he, State.hostAccess, Access.addr]
  rw [show ({ s with events := rest } : State).cfg = s.cfg from rfl, windowOffset_base _ ho]
  simp [hr, State.accessAt, shapeAccepted, hd]

/-- A 32-bit write at an aligned offset, out of reset. -/
theorem nextAction_write32 {s : State} {off : Nat} {v : Word} {rest : List Event} (hr : s.inReset = false)
    (ho : off < 0x20000) (h4 : off % 4 = 0) (he : s.events = .host (.write 32 (s.cfg.base + off) v) :: rest) :
    s.nextAction = ({ s with events := rest, resp := .wrote } : State).write32 off v := by
  rw [nextAction_host he, State.hostAccess, Access.addr]
  rw [show ({ s with events := rest } : State).cfg = s.cfg from rfl, windowOffset_base _ ho]
  simp [hr, State.accessAt, shapeAccepted, h4, State.respond]

end Sys2Proof.Machine
end

