-- ==== Sys2Proof/Laws/PerInstr.lean ====
section
/-!
SUPPORT. The statement that is made once per command: its encoding (30_encoding.md R112, R117).
-/

namespace Sys2Proof.Laws.RoundTrip

/-- Decoding the command's word gives the command back, the word's two fields are legal, and the host's table reader agrees. -/
def Statement (i : Instr) : Prop :=
  i.wellFormed = true ∧ decode (encode i) = .ok i ∧ (splitWord (encode i)).wellFormed = true ∧
    decodeTableWord 32 (encode i).toNat = some i

theorem kse : Statement .kse := by unfold Statement; decide

theorem ksd : Statement .ksd := by unfold Statement; decide

theorem encb : Statement .encb := by unfold Statement; decide

theorem decb : Statement .decb := by unfold Statement; decide

theorem cbce : Statement .cbce := by unfold Statement; decide

theorem cbcd : Statement .cbcd := by unfold Statement; decide

theorem ctr : Statement .ctr := by unfold Statement; decide

theorem igee : Statement .igee := by unfold Statement; decide

theorem iged : Statement .iged := by unfold Statement; decide

end Sys2Proof.Laws.RoundTrip
end

