-- ==== Sys2Proof/Machine/HostProgram.lean ====
section
/-!
DEFINITION. Host programs (30_encoding.md R125, R126) and their runs (70_reset_and_hazards.md R311): lines of bus accesses and host
branches, the pseudo-instructions and their expansions, the host's own move and the engine's. The engine itself is Machine/Step.lean;
nothing there depends on this file.
-/

namespace Sys2Proof.Machine

/-- One line of a host program (R125); `off` is an offset from `BASE`, and a label is the number of the line it names. -/
inductive HostLine where
  /-- `W32 off, v`. -/
  | w32 (off : Nat) (v : Word)
  /-- `R32 off`. -/
  | r32 (off : Nat)
  /-- `W8 off, b`. -/
  | w8 (off : Nat) (b : Byte)
  /-- `R8 off`. -/
  | r8 (off : Nat)
  /-- `BZ t, mask, label`, `t` being the last read value. -/
  | bz (mask : Word) (label : Nat)
  deriving DecidableEq, Repr

/-- The bus access of a line (R125), none for a host branch. -/
def HostLine.access (base : Nat) : HostLine → Option Access
  | .w32 off v => some (.write 32 (base + off) v)
  | .r32 off => some (.read 32 (base + off))
  | .w8 off b => some (.write 8 (base + off) (b.setWidth 32))
  | .r8 off => some (.read 8 (base + off))
  | .bz _ _ => none

/-- A line or a pseudo-instruction (R126). -/
inductive HostPseudo where
  | line (l : HostLine)
  | setKey (k : Vector Word 8)
  | setIv (v : Vector Word 8)
  | setIv16 (v : Vector Word 4)
  | load (a : Nat) (ws : List Word)
  | wait
  | run (i : Instr)
  deriving DecidableEq, Repr

/-- 32-bit writes to successive words from offset `off` on. -/
def writeWords (off : Nat) : List Word → List HostLine
  | [] => []
  | w :: ws => .w32 off w :: writeWords (off + 4) ws

/-- `WAIT`, its first line being line `n` (R126). -/
def waitLines (n : Nat) : List HostLine :=
  [.r32 0x008, .bz 0x2 n]

/-- The expansion of a pseudo-instruction whose first line is line `n` (R126). -/
def HostPseudo.expand (n : Nat) : HostPseudo → List HostLine
  | .line l => [l]
  | .setKey k => writeWords 0x020 k.toList
  | .setIv v => writeWords 0x040 v.toList
  | .setIv16 v => writeWords 0x040 v.toList
  | .load a ws => writeWords (0x10000 + a) ws
  | .wait => waitLines n
  | .run i => .w32 0x00C (encode i) :: waitLines (n + 1) ++ [.w32 0x008 0x2]

/-- A whole program, its first line being line `n`. -/
def assemble (n : Nat) : List HostPseudo → List HostLine
  | [] => []
  | p :: ps => p.expand n ++ assemble (n + (p.expand n).length) ps

/-- A run of a host program (DESIGN CHOICE: the order of the host's and the engine's moves is the reader's,
notes/assumptions/12.md, safe): the program, its next line, the last read value `t`, and the engine. -/
structure HostRun where
  prog   : List HostLine
  next   : Nat
  t      : Word
  engine : State
  deriving DecidableEq, Repr

/-- The last read value after access `a` has been answered with `r`, from the value `t` before it. -/
def lastRead (t : Word) (a : Access) (r : Response) : Word :=
  match a with
  | .read _ _ => r.readData
  | .write _ _ _ => t

/-- The host performs its next line; past the last line it does nothing. -/
def HostRun.hostMove (h : HostRun) : Host.Outcome HostRun Fault Refusal :=
  match h.prog[h.next]? with
  | none => .next h
  | some (.bz mask label) => .next { h with next := if h.t &&& mask = 0 then label else h.next + 1 }
  | some l =>
    match l.access h.engine.cfg.base with
    | none => .next h
    | some a =>
      match step { h.engine with events := .host a :: h.engine.events } with
      | .next s => .next { h with next := h.next + 1, t := lastRead h.t a s.resp, engine := s }
      | .fault f => .fault f
      | .refused r => .refused r

/-- The engine takes its turn (R116, R308). -/
def HostRun.engineMove (h : HostRun) : Host.Outcome HostRun Fault Refusal :=
  match step { h.engine with events := .engine :: h.engine.events } with
  | .next s => .next { h with engine := s }
  | .fault f => .fault f
  | .refused r => .refused r

/-- A run has ended when the host has performed the last line and the engine is idle (R311). -/
def HostRun.ended (h : HostRun) : Bool :=
  h.prog.length ≤ h.next && h.engine.phase == .idle

end Sys2Proof.Machine
end

