-- ==== Sys2Proof/Tests/Slice0.lean ====
section
/-!
SUPPORT. The model's own tests: ill-formed command words, words written out from the encoding, one step of each command against
the vectors of 95_test_vectors.md, and for every statement with hypotheses a state and operands that meet them.
-/

namespace Sys2Proof.Tests

open Sys2Proof.Machine

/-! ### Helpers -/

/-- A condition on the next state of an outcome. -/
def onNext (o : Host.Outcome State Fault Refusal) (p : State → Bool) : Bool :=
  match o with
  | .next t => p t
  | _ => false

/-- Reset with pending inputs. -/
def idleWith (es : List Event) : State :=
  { State.reset with events := es }

/-- Reset with operand registers. -/
def idleOps (src dst len : Word) (cur : BitVec 8) : State :=
  { State.reset with src := src, dst := dst, len := len, cur := cur }

/-- The state right after the acceptance of `i`. -/
def accepted (i : Instr) (s : State) : State :=
  s.clearCompletion.start i (byteCount i s.len.toNat)

/-- CTR over the last four bytes of DMEM, running, with pending inputs. -/
def busyWith (es : List Event) : State :=
  { accepted .ctr (idleOps 0xFFC 0xFFC 4 15) with events := es }

/-- Key K1 of 95_test_vectors.md. -/
def keyK1 : Vector Word 8 :=
  #v[0x00010203, 0x04050607, 0x08090a0b, 0x0c0d0e0f, 0x10111213, 0x14151617, 0x18191a1b, 0x1c1d1e1f]

/-- A read of `STATUS` at offset 0x008. -/
def readStatus : Event := .host (.read 32 0x008)

/-! ### WellFormed refuses ill-formed words -/

/-- R110: a reserved bit is set. -/
theorem test_reserved_bit_refused :
    ({ op := 0x10, rsv := 1 } : CommandWord).reservedZero = false ∧
      ({ op := 0x10, rsv := 1 } : CommandWord).wellFormed = false := by decide

/-- R113: the opcode 0x12 is not assigned. -/
theorem test_unassigned_opcode_refused :
    ({ op := 0x12, rsv := 0 } : CommandWord).opcodeAssigned = false ∧
      ({ op := 0x12, rsv := 0 } : CommandWord).wellFormed = false := by decide

theorem test_legal_word_accepted : ({ op := 0x31, rsv := 0 } : CommandWord).wellFormed = true := by decide

/-! ### Words written out bit by bit: `OP` is bits 7:0, `RSV` bits 31:8 (R110, R112) -/

theorem test_decode_kse : decode 0b00000000000000000000000000000001 = .ok .kse := by decide
theorem test_decode_ksd : decode 0b00000000000000000000000000000010 = .ok .ksd := by decide
theorem test_decode_encb : decode 0b00000000000000000000000000000011 = .ok .encb := by decide
theorem test_decode_decb : decode 0b00000000000000000000000000000100 = .ok .decb := by decide
theorem test_decode_cbce : decode 0b00000000000000000000000000010000 = .ok .cbce := by decide
theorem test_decode_cbcd : decode 0b00000000000000000000000000010001 = .ok .cbcd := by decide
theorem test_decode_ctr : decode 0b00000000000000000000000000100000 = .ok .ctr := by decide
theorem test_decode_igee : decode 0b00000000000000000000000000110000 = .ok .igee := by decide
theorem test_decode_iged : decode 0b00000000000000000000000000110001 = .ok .iged := by decide

/-- 95_test_vectors.md 3.10 rows 14 to 18. -/
theorem test_decode_illegal :
    decode 0x00000000 = .error .opcodeNotAssigned ∧ decode 0x00000110 = .error .reservedBitSet ∧
      decode 0x80000010 = .error .reservedBitSet ∧ decode 0x00000012 = .error .opcodeNotAssigned ∧
      decode 0x00000032 = .error .opcodeNotAssigned := by decide

/-- The host's word for CTR, placed by `withFetchWord`, is the command that the next step takes: `LEN` = 0 fails with code 1
(95_test_vectors.md 3.7 row 8, `STATUS` 0x012). -/
theorem test_fetch_word_runs :
    decodeTableWord 32 0x20 = some .ctr ∧
      onNext (step (State.reset.withFetchWord 32 0x20)) (fun t => t.statusWord == 0x012) = true := by
  refine ⟨?_, ?_⟩ <;> decide

/-! ### Primitives: 95_test_vectors.md 2.1, 2.2, 3.7 -/

theorem test_field_products :
    xtime 0x57 = 0xae ∧ xtime 0xff = 0xe5 ∧ gfMul 0x57 0x83 = 0xc1 ∧ gfMul 0x57 0x13 = 0xfe ∧ gfInv 0x53 = 0xca := by
  refine ⟨?_, ?_, ?_, ?_, ?_⟩ <;> decide +kernel

theorem test_mix_columns :
    mixColumn { r0 := 0xdb, r1 := 0x13, r2 := 0x53, r3 := 0x45 } = { r0 := 0x8e, r1 := 0x4d, r2 := 0xa1, r3 := 0xbc } ∧
      mixColumn { r0 := 0x2d, r1 := 0x26, r2 := 0x31, r3 := 0x4c } = { r0 := 0x4d, r1 := 0x7e, r2 := 0xbd, r3 := 0xf8 } ∧
      invMixColumn { r0 := 0x8e, r1 := 0x4d, r2 := 0xa1, r3 := 0xbc } =
        { r0 := 0xdb, r1 := 0x13, r2 := 0x53, r3 := 0x45 } := by
  refine ⟨?_, ?_, ?_⟩ <;> decide +kernel

theorem test_word_functions :
    rotWord 0x09cf4f3c = 0xcf4f3c09 ∧ subWord 0xcf4f3c09 = 0x8a84eb01 ∧ rcon 1 = 0x01000000 ∧ rcon 7 = 0x40000000 ∧
      invMixWord 0x24fc79cc = 0xc8054fef := by
  refine ⟨?_, ?_, ?_, ?_, ?_⟩ <;> decide +kernel

theorem test_shift_rows :
    shiftRows (block128 0x000102030405060708090a0b0c0d0e0f) = block128 0x00050a0f04090e03080d02070c01060b := by
  decide +kernel

theorem test_inc128 :
    inc128 (block128 0x000102030405060708090a0b0c0d00ff) = block128 0x000102030405060708090a0b0c0d0100 ∧
      inc128 (block128 0x0000000000000000ffffffffffffffff) = block128 0x00000000000000010000000000000000 ∧
      inc128 (block128 0xffffffffffffffffffffffffffffffff) = block128 0 := by
  refine ⟨?_, ?_, ?_⟩ <;> decide +kernel

/-! ### One step of each command: 95_test_vectors.md 3.1 to 3.9 -/

/-- 3.1 row 1: word 4 of round key 2 and the last word, `EKS_VALID`, `STATUS` 0x102. -/
theorem test_kse :
    onNext (exec .kse (accepted .kse { State.reset with key := keyK1 })) (fun t =>
      scheduleWord t.eks 8 == 0xa573c29f && scheduleWord t.eks 59 == 0x6d68de36 && t.statusWord == 0x102) = true := by
  decide +kernel

/-- 3.1 row 4: KSE checks no operand. -/
theorem test_kse_checks_nothing :
    onNext (exec .kse (idleOps 0xFFFFFFFF 0 3 200)) (fun t => t.statusWord == 0x001) = true := by
  decide +kernel

/-- 3.2 row 1: a word of round key 1 and of round key 0, `DKS_VALID`, `STATUS` 0x202. -/
theorem test_ksd :
    onNext (exec .ksd (accepted .ksd { State.reset with key := keyK1 })) (fun t =>
      scheduleWord t.dks 4 == 0x34f1d1ff && scheduleWord t.dks 0 == 0x24fc79cc && t.statusWord == 0x202) = true := by
  decide +kernel

/-- 3.3 row 1, in place: FIPS-197 C.3. -/
theorem test_encb :
    onNext (exec .encb (accepted .encb
      (({ idleOps 0x40 0x40 5 0 with eks := expandKey (registerBytes keyK1), eksValid := true } : State).writeBlock 0x40
        (block128 0x00112233445566778899aabbccddeeff)))) (fun t =>
      t.readBlock 0x40 == block128 0x8ea2b7ca516745bfeafc49904b496089 && t.statusWord == 0x102) = true := by
  decide +kernel

/-- 3.10 row 9: no schedule. -/
theorem test_encb_no_schedule :
    onNext (exec .encb (idleOps 0 0x100 0 0)) (fun t => t.statusWord == 0x062) = true := by
  decide +kernel

/-- 3.4 row 1. -/
theorem test_decb :
    onNext (exec .decb (accepted .decb
      (({ idleOps 0 0x101 0 0 with dks := expandDecKey (registerBytes keyK1), dksValid := true } : State).writeBlock 0
        (block128 0x8ea2b7ca516745bfeafc49904b496089)))) (fun t =>
      t.readBlock 0x101 == block128 0x00112233445566778899aabbccddeeff && t.statusWord == 0x202) = true := by
  decide +kernel

/-- 3.4 row 4: the encrypt schedule does not serve DECB. -/
theorem test_decb_no_schedule :
    onNext (exec .decb { idleOps 0 0x100 0 0 with eksValid := true }) (fun t => t.statusWord == 0x162) = true := by
  decide +kernel

/-- 3.5 row 2: two zero blocks under K0. -/
theorem test_cbce :
    onNext (exec .cbce (accepted .cbce (((idleOps 0 0x100 32 0).writeBlock 0 (block128 0)).writeBlock 16 (block128 0))))
      (fun t =>
        t.blocksAt 0x100 2 ==
            [block128 0xdc95c078a2408989ad48a21492842087, block128 0x08c374848c228233c2b34f332bd2e9d3] &&
          t.iv == #v[0x08c37484, 0x8c228233, 0xc2b34f33, 0x2bd2e9d3, 0, 0, 0, 0] && t.statusWord == 0x102) = true := by
  decide +kernel

/-- 3.10 row 2: the source range ends one byte beyond DMEM. -/
theorem test_cbce_range :
    onNext (exec .cbce (idleOps 0xFF1 0 16 0)) (fun t => t.statusWord == 0x042) = true := by
  decide +kernel

/-- 3.6 row 2, in place: the IV takes the raw last ciphertext block. -/
theorem test_cbcd :
    onNext (exec .cbcd (accepted .cbcd (((idleOps 0 0 32 0).writeBlock 0
      (block128 0xdc95c078a2408989ad48a21492842087)).writeBlock 16 (block128 0x08c374848c228233c2b34f332bd2e9d3))))
      (fun t =>
        t.blocksAt 0 2 == [block128 0, block128 0] &&
          t.iv == #v[0x08c37484, 0x8c228233, 0xc2b34f33, 0x2bd2e9d3, 0, 0, 0, 0] && t.statusWord == 0x202) = true := by
  decide +kernel

/-- 3.10 row 24: 4112 bytes do not fit. -/
theorem test_cbcd_range :
    onNext (exec .cbcd (idleOps 0 0 4112 0)) (fun t => t.statusWord == 0x042) = true := by
  decide +kernel

/-- 3.7 row 2: across a block boundary. -/
theorem test_ctr :
    onNext (exec .ctr (accepted .ctr ((idleOps 0x33 0x21 3 15).writeBytes 0x33 [0, 0, 0]))) (fun t =>
      (List.range 3).map (fun j => t.readByte (0x21 + j)) == [0x87, 0x53, 0x0f] &&
        t.iv == #v[0, 0, 0, 1, 0, 0, 0, 0] && t.cur == 2) = true := by
  decide +kernel

/-- 3.10 row 13: the length is checked before the cursor. -/
theorem test_ctr_priority :
    onNext (exec .ctr (idleOps 0 0 0 20)) (fun t => t.statusWord == 0x012) = true := by
  decide +kernel

/-- 3.8: the main vector. -/
theorem test_igee :
    onNext (exec .igee (accepted .igee ((({ idleOps 0 0x80 32 0 with key := keyK1, iv := keyK1 } : State).writeBlock 0
      (block128 0x404142434445464748494a4b4c4d4e4f)).writeBlock 16 (block128 0x505152535455565758595a5b5c5d5e5f))))
      (fun t =>
        t.blocksAt 0x80 2 ==
            [block128 0x81dde5911d546a29f287814a9dfec0a0, block128 0x3b33b6a94e1933f7f5a1e2e1647c105c] &&
          t.iv == keyK1 && t.statusWord == 0x102) = true := by
  decide +kernel

/-- 3.10 row 21: not a multiple of 16. -/
theorem test_igee_length :
    onNext (exec .igee (idleOps 0 0 8 0)) (fun t => t.statusWord == 0x012) = true := by
  decide +kernel

/-- 3.9: the round trip of the main vector, in place. -/
theorem test_iged :
    onNext (exec .iged (accepted .iged ((({ idleOps 0 0 32 0 with key := keyK1, iv := keyK1 } : State).writeBlock 0
      (block128 0x81dde5911d546a29f287814a9dfec0a0)).writeBlock 16 (block128 0x3b33b6a94e1933f7f5a1e2e1647c105c))))
      (fun t =>
        t.blocksAt 0 2 ==
            [block128 0x404142434445464748494a4b4c4d4e4f, block128 0x505152535455565758595a5b5c5d5e5f] &&
          t.iv == keyK1 && t.statusWord == 0x202) = true := by
  decide +kernel

/-- 3.10 row 22: a partial overlap. -/
theorem test_iged_overlap :
    onNext (exec .iged (idleOps 0 0x20 48 0)) (fun t => t.statusWord == 0x052) = true := by
  decide +kernel

/-! ### Bus accesses: 95_test_vectors.md 3.11 -/

/-- Rows 3 and 4: reserved bits of `CTRL` and `CURSOR` are not stored. -/
theorem test_register_writes :
    onNext (step (idleWith [.host (.write 32 0x004 0xFFFFFFFF)])) (fun t => t.ctrlWord == 1) = true ∧
      onNext (step (idleWith [.host (.write 32 0x01C 0x1234)])) (fun t => t.cur == 0x34) = true := by
  refine ⟨?_, ?_⟩ <;> decide

/-- Rows 12, 13 and 15: big-endian, and ignored at `DMEM_BYTES`. -/
theorem test_dmem_writes :
    onNext (step (idleWith [.host (.write 32 0x10000 0x11223344)])) (fun t =>
        t.readByte 0 == 0x11 && t.readByte 3 == 0x44) = true ∧
      onNext (step (idleWith [.host (.write 32 0x11000 5)])) (fun t => t.dmem == []) = true := by
  refine ⟨?_, ?_⟩ <;> decide

/-- Rows 10, 11 and 16: refused shapes, and an 8-bit read beyond DMEM. -/
theorem test_bus_answers :
    onNext (step (idleWith [.host (.read 32 0x002)])) (fun t => t.resp == .busError) = true ∧
      onNext (step (idleWith [.host (.read 8 0x004)])) (fun t => t.resp == .busError) = true ∧
      onNext (step (idleWith [.host (.read 8 0x1FFFF)])) (fun t => t.resp == .read 0) = true := by
  refine ⟨?_, ?_, ?_⟩ <;> decide

/-- Rows 17 and 18: an illegal word completes with code 3 and raises `IRQ`; a write to `STATUS` clears `DONE`, not `ERR`. -/
theorem test_illegal_word_interrupt :
    onNext (step { idleWith [.host (.write 32 0x00C 0x05)] with ie := true })
        (fun t => t.statusWord == 0x032 && t.irq) = true ∧
      onNext (step { idleWith [.host (.write 32 0x008 0xFFFFFFFF)] with ie := true, done := true, err := .illegalCmd })
        (fun t => t.statusWord == 0x030 && !t.irq) = true := by
  refine ⟨?_, ?_⟩ <;> decide

/-! ### Host programs -/

/-- 95_test_vectors.md 4.1, bus records 10, 13, 20 to 24 and 49: `SETIV16`, `LOAD` and `RUN CBCE` expand to these lines. -/
theorem test_pseudo_expansion :
    (assemble 0 [.setIv16 #v[1, 2, 3, 4], .load 0x000 [5, 6], .run .cbce]) =
      [.w32 0x00040 1, .w32 0x00044 2, .w32 0x00048 3, .w32 0x0004c 4, .w32 0x10000 5, .w32 0x10004 6,
       .w32 0x0000c 0x00000010, .r32 0x00008, .bz 0x2 7, .w32 0x00008 0x00000002] := by
  decide

/-- 95_test_vectors.md 4.1, lines 22 and 23: the poll finds the command running, and the branch is taken. -/
theorem test_wait_branch :
    (match HostRun.hostMove { prog := assemble 0 [.wait], next := 0, t := 0, engine := busyWith [] } with
      | .next h =>
        match h.hostMove with
        | .next g => h.t == 1 && h.next == 1 && g.next == 0
        | _ => false
      | _ => false) = true := by
  decide

/-! ### Witnesses: hypotheses that a state meets -/

/-- CTR over the last byte, KSE and KSD whatever the operands, ENCB at the end of DMEM, DECB on adjacent blocks, and the block modes
over all of DMEM or its end, idle, pass validation. -/
theorem witness_validated :
    ∀ p ∈ [(Instr.ctr, idleOps 0xFFF 0 1 15), (.kse, idleOps 0xFFFFFFFF 0 0 200), (.ksd, idleOps 0xFFFFFFFF 0 0 200),
        (.encb, { idleOps 0xFF0 0 5 0 with eksValid := true }), (.decb, { idleOps 0 16 5 0 with dksValid := true }),
        (.cbce, idleOps 0 0 4096 99), (.cbcd, idleOps 0xFF0 0 16 99), (.igee, idleOps 0 0 4096 99),
        (.iged, idleOps 0 16 16 99)],
      p.2.phase = .idle ∧ p.2.validate p.1 = .ok := by decide

/-- Idle states that fail, one for each code and boundary (95_test_vectors.md 3.10). -/
theorem witness_failing :
    ∀ p ∈ [(Instr.ctr, idleOps 0 0 0 20, ErrCode.invalidLength), (.iged, idleOps 0 0 1 0, .invalidLength),
        (.ctr, idleOps 0 0 1 16, .invalidState), (.cbce, idleOps 0xFF1 0 16 0, .range),
        (.cbce, idleOps 0xFFFFFFF0 0xFFFFFFF0 16 0, .range), (.cbcd, idleOps 0 15 16 0, .overlap),
        (.encb, idleOps 0 8 0 0, .overlap), (.encb, idleOps 0 16 0 0, .noSchedule), (.decb, idleOps 0 0 0 0, .noSchedule)],
      p.2.1.phase = .idle ∧ p.2.1.validate p.1 = p.2.2 ∧ p.2.1.validate p.1 ≠ .ok := by decide

/-- A word that is no command's. -/
theorem witness_illegal_word : ∀ i, (0x12 : Word) ≠ encode i := by
  intro i; cases i <;> decide

/-- A command that the cursor does not concern. -/
theorem witness_not_ctr : Instr.encb ≠ .ctr := by decide

/-- A command word as the next input, idle and out of reset; a word with a reserved bit, one with an unassigned opcode. -/
theorem witness_submitted :
    (idleWith [.host (.write 32 0x00C 0x20)]).inReset = false ∧ (idleWith [.host (.write 32 0x00C 0x20)]).phase = .idle ∧
      (idleWith [.host (.write 32 0x00C 0x20)]).events =
        .host (.write 32 ((idleWith [.host (.write 32 0x00C 0x20)]).cfg.base + 0x00C) 0x20) :: [] ∧
      decode 0x20 = .ok .ctr ∧ (0x110 : Word).extractLsb' 8 24 ≠ 0 ∧
      (0x12 : Word).extractLsb' 0 8 ∉ ([0x01, 0x02, 0x03, 0x04, 0x10, 0x11, 0x20, 0x30, 0x31] : List (BitVec 8)) ∧
      (0x00 : Word).extractLsb' 0 8 ∉ ([0x01, 0x02, 0x03, 0x04, 0x10, 0x11, 0x20, 0x30, 0x31] : List (BitVec 8)) := by
  decide

/-- A running command whose turn is next: no input left, or the engine's turn. -/
theorem witness_completes_next :
    (busyWith []).completesNext ∧ (busyWith [.engine, readStatus]).completesNext := by decide

/-- Running commands with validated latches: each of the nine. -/
theorem witness_running :
    ∀ p ∈ [(Instr.kse, idleOps 1 2 3 4), (.ksd, idleOps 1 2 3 4), (.encb, idleOps 0xFF0 0xFF0 0 0), (.decb, idleOps 0 16 0 0),
        (.cbce, idleOps 0 0 4096 16), (.cbcd, idleOps 0 16 16 16), (.ctr, idleOps 0xFFF 0xFFF 1 15),
        (.igee, idleOps 0 0 4096 16), (.iged, idleOps 0 16 16 16)],
      (accepted p.1 p.2).phase = .run ∧ (accepted p.1 p.2).latchValid p.1 = true := by decide

/-- Each command, running, answers a next state (the hypotheses of the frames). -/
theorem witness_frames :
    (∃ t, exec .kse (accepted .kse (idleOps 1 2 3 4)) = .next t) ∧ (∃ t, exec .ksd (accepted .ksd (idleOps 1 2 3 4)) = .next t) ∧
      (∃ t, exec .encb (accepted .encb (idleOps 0 0 0 0)) = .next t) ∧
      (∃ t, exec .decb (accepted .decb (idleOps 0 16 0 0)) = .next t) ∧
      (∃ t, exec .cbce (accepted .cbce (idleOps 0 0 32 0)) = .next t) ∧
      (∃ t, exec .cbcd (accepted .cbcd (idleOps 0 16 16 0)) = .next t) ∧
      (∃ t, exec .ctr (accepted .ctr (idleOps 0 0 1 15)) = .next t) ∧
      (∃ t, exec .igee (accepted .igee (idleOps 0 0 32 0)) = .next t) ∧
      (∃ t, exec .iged (accepted .iged (idleOps 0 16 16 0)) = .next t) :=
  ⟨⟨_, exec_of_run rfl (by decide)⟩, ⟨_, exec_of_run rfl (by decide)⟩, ⟨_, exec_of_run rfl (by decide)⟩,
    ⟨_, exec_of_run rfl (by decide)⟩, ⟨_, exec_of_run rfl (by decide)⟩, ⟨_, exec_of_run rfl (by decide)⟩,
    ⟨_, exec_of_run rfl (by decide)⟩, ⟨_, exec_of_run rfl (by decide)⟩, ⟨_, exec_of_run rfl (by decide)⟩⟩

/-- Sound states: reset, in reset, and running with inputs that hold no reset. -/
theorem witness_sound :
    State.reset.Inv ∧ ({ State.reset with inReset := true } : State).Inv ∧
      (busyWith [.host (.write 32 0x010 7), readStatus, .releaseReset]).Inv ∧
      (busyWith [.host (.write 32 0x010 7), readStatus, .releaseReset]).phase = .run ∧
      .assertReset ∉ (busyWith [.host (.write 32 0x010 7), readStatus, .releaseReset]).events := by
  refine ⟨?_, ?_, ?_, ?_, ?_⟩ <;> decide

/-- A step from a sound state. -/
theorem witness_step : ∃ t, (idleWith [readStatus]).Inv ∧ step (idleWith [readStatus]) = .next t :=
  ⟨_, by decide, rfl⟩

/-- An idle engine with no input, and with its own turn next. -/
theorem witness_idle_engine :
    (idleWith []).phase = .idle ∧ (idleWith []).events = [] ∧ (idleWith [.engine]).phase = .idle ∧
      (idleWith [.engine]).events = .engine :: [] := by decide

/-- A reset edge while idle and while running. -/
theorem witness_reset_edge :
    (idleWith [.assertReset]).events = .assertReset :: [] ∧ (idleWith [.assertReset]).phase = .idle ∧
      (busyWith [.assertReset]).events = .assertReset :: [] ∧ (busyWith [.assertReset]).phase = .run ∧
      (idleWith [.releaseReset]).events = .releaseReset :: [] := by decide

/-- An access while reset is asserted. -/
theorem witness_in_reset :
    ({ idleWith [readStatus] with inReset := true } : State).inReset = true ∧
      ({ idleWith [readStatus] with inReset := true } : State).events = .host (.read 32 0x008) :: [] := by decide

/-- Reads that are steady, idle and running: the first register, the last key register, the first and the last reserved offset. -/
theorem witness_steady_reads :
    (∀ s ∈ [idleWith [.host (.read 32 0x000)], busyWith [.host (.read 32 0x000)]],
      (0x000, 0x41455301) ∈ s.steadyReads ∧ s.inReset = false ∧
        s.events = .host (.read 32 (s.cfg.base + 0x000)) :: []) ∧
      (∀ s ∈ [idleWith [.host (.read 32 0x03C)], busyWith [.host (.read 32 0x03C)]],
        (0x03C, 0) ∈ s.steadyReads ∧ s.inReset = false ∧ s.events = .host (.read 32 (s.cfg.base + 0x03C)) :: []) ∧
      ∀ off ∈ [0x060, 0xFFFC], ∀ s ∈ [idleWith [.host (.read 32 off)], busyWith [.host (.read 32 off)]],
        (0x060 ≤ off ∧ off < 0x10000 ∧ off % 4 = 0) ∧ s.inReset = false ∧
          s.events = .host (.read 32 (s.cfg.base + off)) :: [] := by decide

/-- Reads while idle: the cursor, the first and the last IV register, the first and the last reserved offset, and the DMEM window at its
ends and on both sides of `DMEM_BYTES`. -/
theorem witness_idle_reads :
    (∀ off ∈ [0x01C, 0x040 + 4 * (0 : Fin 8).val, 0x040 + 4 * (7 : Fin 8).val, 0x060, 0xFFFC],
      (idleWith [.host (.read 32 off)]).inReset = false ∧ (idleWith [.host (.read 32 off)]).phase = .idle ∧
        (idleWith [.host (.read 32 off)]).events =
          .host (.read 32 ((idleWith [.host (.read 32 off)]).cfg.base + off)) :: []) ∧
      (0x060 ≤ 0x060 ∧ 0x060 < 0x10000 ∧ 0x060 % 4 = 0) ∧ (0x060 ≤ 0xFFFC ∧ 0xFFFC < 0x10000 ∧ 0xFFFC % 4 = 0) ∧
      ∀ p ∈ [(8, 0), (8, 4095), (8, 4096), (8, 0xFFFF), (32, 0), (32, 4092), (32, 4096), (32, 0xFFFC)],
        p.2 < 0x10000 ∧ (p.1 = 32 → p.2 % 4 = 0) ∧
          (idleWith [.host (.read p.1 (0 + (0x10000 + p.2)))]).events =
            .host (.read p.1 ((idleWith []).cfg.base + (0x10000 + p.2))) :: [] := by decide

/-- The read shapes whose answer is free while a command runs: the boundary offsets of each clause. -/
theorem witness_busy_reads :
    ∀ p ∈ [(32, 0x01C), (32, 0x040), (32, 0x05C), (32, 0x10000), (32, 0x1FFFC), (8, 0x10000), (8, 0x1FFFF)],
      (busyWith [.host (.read p.1 p.2)]).inReset = false ∧ (busyWith [.host (.read p.1 p.2)]).phase = .run ∧
        p.2 < 0x20000 ∧
        (p.1 = 32 ∧ p.2 % 4 = 0 ∧ (p.2 = 0x01C ∨ (0x040 ≤ p.2 ∧ p.2 < 0x060) ∨ 0x10000 ≤ p.2) ∨
          p.1 = 8 ∧ 0x10000 ≤ p.2) ∧
        (busyWith [.host (.read p.1 p.2)]).events =
          .host (.read p.1 ((busyWith [.host (.read p.1 p.2)]).cfg.base + p.2)) :: [] := by decide

/-- Writes while idle: an offset of each clause, the first and the last where there are several. -/
theorem witness_idle_writes :
    (∀ off ∈ [0x000, 0x060, 0xFFFC, 0x004, 0x010, 0x014, 0x018, 0x01C, 0x020 + 4 * (0 : Fin 8).val,
        0x020 + 4 * (7 : Fin 8).val, 0x040 + 4 * (0 : Fin 8).val, 0x040 + 4 * (7 : Fin 8).val],
      (idleWith [.host (.write 32 off 9)]).inReset = false ∧ (idleWith [.host (.write 32 off 9)]).phase = .idle ∧
        (idleWith [.host (.write 32 off 9)]).events =
          .host (.write 32 ((idleWith [.host (.write 32 off 9)]).cfg.base + off) 9) :: []) ∧
      (0x060 ≤ 0xFFFC ∧ 0xFFFC < 0x10000 ∧ 0xFFFC % 4 = 0) := by decide

/-- Writes that the bus accepts while a command runs, to offsets other than `STATUS`. -/
theorem witness_busy_writes :
    ∀ p ∈ [(32, 0x000), (32, 0x00C), (32, 0x0FFFC), (32, 0x1FFFC), (8, 0x10000), (8, 0x1FFFF)],
      (busyWith [.host (.write p.1 p.2 1)]).inReset = false ∧ (busyWith [.host (.write p.1 p.2 1)]).phase = .run ∧
        p.2 < 0x20000 ∧ p.2 ≠ 0x008 ∧ (p.1 = 32 ∧ p.2 % 4 = 0 ∨ p.1 = 8 ∧ 0x10000 ≤ p.2) ∧
        (busyWith [.host (.write p.1 p.2 1)]).events =
          .host (.write p.1 ((busyWith [.host (.write p.1 p.2 1)]).cfg.base + p.2) 1) :: [] := by decide

/-- `IGN` cleared by a write of 1 to its bit. -/
theorem witness_ign_cleared :
    ∃ t, step { idleWith [.host (.write 32 0x008 0x4)] with ign := true } = .next t ∧
      ({ idleWith [.host (.write 32 0x008 0x4)] with ign := true } : State).ign = true ∧ t.ign = false :=
  ⟨_, rfl, rfl, by decide⟩

/-- A write to `STATUS` while idle and while running. -/
theorem witness_status_write :
    ∀ s ∈ [idleWith [.host (.write 32 0x008 0x6)], busyWith [.host (.write 32 0x008 0x6)]],
      s.inReset = false ∧ s.events = .host (.write 32 (s.cfg.base + 0x008) 0x6) :: [] := by
  decide

/-- Refused shapes: 16 bits, a misaligned 32-bit access, an 8-bit access just below the DMEM window, 64 bits; reads and writes. -/
theorem witness_refused_shapes :
    ∀ p ∈ [(16, 0x10000), (32, 0x10002), (8, 0xFFFF), (64, 0x008)],
      p.2 < 0x20000 ∧ ¬ (p.1 = 32 ∧ p.2 % 4 = 0 ∨ p.1 = 8 ∧ 0x10000 ≤ p.2) ∧
        ∀ e ∈ [Event.host (.read p.1 (State.reset.cfg.base + p.2)), .host (.write p.1 (State.reset.cfg.base + p.2) 1)],
          (idleWith [e]).inReset = false ∧ (idleWith [e]).events = e :: [] := by decide

/-- 8-bit writes at the first and the last offset of DMEM, the first beyond it, and the last of the window. -/
theorem witness_dmem_bytes :
    ∀ a ∈ [0, 4095, 4096, 0xFFFF],
      (idleWith [.host (.write 8 (0 + (0x10000 + a)) 1)]).inReset = false ∧
        (idleWith [.host (.write 8 (0 + (0x10000 + a)) 1)]).phase = .idle ∧ a < 0x10000 ∧
        (idleWith [.host (.write 8 (0 + (0x10000 + a)) 1)]).events =
          .host (.write 8 ((idleWith []).cfg.base + (0x10000 + a)) 1) :: [] ∧
        (a < (idleWith []).cfg.dmemBytes ∨ (idleWith []).cfg.dmemBytes ≤ a) := by decide

/-- The first and the last word of DMEM, the first beyond it and the last of the window written; then a read as a byte and as a word. -/
theorem witness_dmem_widths :
    ∀ a ∈ [0, 4092, 4096, 0xFFFC], ∀ j ∈ [0, 3],
      ∀ e ∈ [Event.host (.read 8 (0 + (0x10000 + a + j))), .host (.read 32 (0 + (0x10000 + a)))],
      (idleWith [.host (.write 32 (0 + (0x10000 + a)) 1), e]).inReset = false ∧
        (idleWith [.host (.write 32 (0 + (0x10000 + a)) 1), e]).phase = .idle ∧
        (idleWith [.host (.write 32 (0 + (0x10000 + a)) 1), e]).cfg.legal ∧
        a % 4 = 0 ∧ a < 0x10000 ∧ j < 4 ∧
        (idleWith [.host (.write 32 (0 + (0x10000 + a)) 1), e]).events =
          .host (.write 32 ((idleWith []).cfg.base + (0x10000 + a)) 1) :: e :: [] ∧
        (a < (idleWith []).cfg.dmemBytes ∨ (idleWith []).cfg.dmemBytes ≤ a) := by decide

/-- `IRQ` rises when an enabled command fails, and when the host enables it with a completion pending. -/
theorem witness_irq_rises :
    (∃ t, step { idleWith [.host (.write 32 0x00C 0)] with ie := true } = .next t ∧
      ({ idleWith [.host (.write 32 0x00C 0)] with ie := true } : State).irq = false ∧ t.irq = true) ∧
    (∃ t, step { idleWith [.host (.write 32 0x004 1)] with done := true } = .next t ∧
      ({ idleWith [.host (.write 32 0x004 1)] with done := true } : State).irq = false ∧ t.irq = true) :=
  ⟨⟨_, rfl, by decide, by decide⟩, ⟨_, rfl, by decide, by decide⟩⟩

/-- A step without a reset from a state with both schedules valid, whose next step completes no command. -/
theorem witness_validity_bits :
    ∃ t, step { idleWith [readStatus] with eksValid := true, dksValid := true } = .next t ∧
      ({ idleWith [readStatus] with eksValid := true, dksValid := true } : State).events.head? ≠ some .assertReset ∧
      ¬ ({ idleWith [readStatus] with eksValid := true, dksValid := true } : State).completesNext :=
  ⟨_, rfl, by decide, by decide⟩

/-- Steps that change `SRC`, `CURSOR` and `IV0`. -/
theorem witness_operand_write :
    (∃ t, step (idleWith [.host (.write 32 0x010 7)]) = .next t ∧ t.src ≠ (idleWith [.host (.write 32 0x010 7)]).src) ∧
      (∃ t, step (idleWith [.host (.write 32 0x01C 7)]) = .next t ∧ t.cur ≠ (idleWith [.host (.write 32 0x01C 7)]).cur) ∧
      (∃ t, step (idleWith [.host (.write 32 0x040 7)]) = .next t ∧ t.iv ≠ (idleWith [.host (.write 32 0x040 7)]).iv) :=
  ⟨⟨_, rfl, by decide⟩, ⟨_, rfl, by decide⟩, ⟨_, rfl, by decide⟩⟩

/-- Two states that differ in the key only, and a step that completes no command and draws no free value. -/
theorem witness_secrets :
    ∃ u, SameButSecrets (idleWith [readStatus]) { idleWith [readStatus] with key := keyK1 } ∧
      ¬ (idleWith [readStatus]).completesNext ∧ step (idleWith [readStatus]) = .next u ∧
      u.draws = (idleWith [readStatus]).draws :=
  ⟨_, rfl, by decide, rfl, rfl⟩

/-- Schedule word indices and round keys at their ends. -/
theorem witness_schedule_indices : (8 ≤ 8 ∧ 8 < 60) ∧ (8 ≤ 59 ∧ 59 < 60) ∧ (0 < 15 ∧ 0 < 4) ∧ (14 < 15 ∧ 3 < 4) := by
  decide

/-- A ciphertext block in a list, first and last. -/
theorem witness_ciphertext_block :
    [block128 1, block128 2][0]? = some (block128 1) ∧ [block128 1, block128 2][1]? = some (block128 2) := by decide +kernel

/-- A CTR stream of two bytes split after one, across a block boundary, in place; and one that ends at the end of DMEM. -/
theorem witness_ctr_split :
    (idleOps 0 0 2 15).cfg.legal ∧ (idleOps 0 0 2 15).phase = .idle ∧ (idleOps 0 0 2 15).validate .ctr = .ok ∧
      0 < 1 ∧ 1 < (idleOps 0 0 2 15).len.toNat ∧ (idleOps 0xFFE 0 2 0).validate .ctr = .ok := by decide

/-- CTR run over its own output: in place, and to a third range. -/
theorem witness_ctr_involution :
    (idleOps 0 16 16 3).phase = .idle ∧ (idleOps 0 16 16 3).validate .ctr = .ok ∧
      ({ idleOps 0 16 16 3 with src := (idleOps 0 16 16 3).dst, dst := 16 } : State).validate .ctr = .ok ∧
      ({ idleOps 0 16 16 3 with src := (idleOps 0 16 16 3).dst, dst := 32 } : State).validate .ctr = .ok := by decide

end Sys2Proof.Tests
end

section
/-!
PROOFS. Scope (00_scope.md R13): a command's fault arises exactly where it is to complete with operands that validation refuses, and
every step keeps the invariant of sound states.
-/

namespace Sys2Proof.Machine

/-! ### When a command faults -/

theorem exec_eq_fault_iff (i : Instr) (s : State) (f : Fault) :
    exec i s = .fault f ↔ f = .latchNotValidated ∧ s.phase = .run ∧ s.latchValid i = false := by
  cases hp : s.phase with
  | idle => simp [exec_of_idle hp]
  | run =>
    cases hl : s.latchValid i with
    | false => simp [exec_of_unvalidated hp hl]
    | true => simp [exec_of_run hp hl]

theorem exec_ne_refused (i : Instr) (s : State) (r : Refusal) : exec i s ≠ .refused r := by
  cases hp : s.phase with
  | idle => simp [exec_of_idle hp]
  | run =>
    cases hl : s.latchValid i with
    | false => simp [exec_of_unvalidated hp hl]
    | true => simp [exec_of_run hp hl]

/-- Settles O28: the fault's one case is `exec_eq_fault_iff`. -/
theorem faultExactlyOnUnvalidatedLatch : Obligations.FaultExactlyOnUnvalidatedLatch :=
  fun i s => ⟨exec_eq_fault_iff i s, exec_ne_refused i s⟩

/-! ### Acceptance latches operands that validation lets pass -/

theorem State.validate_eq_ok_iff (s : State) (i : Instr) :
    s.validate i = .ok ↔
      validateOperands i s.cfg.dmemBytes s.src.toNat s.dst.toNat s.len.toNat s.cur.toNat = .ok ∧
        validateSchedule i s.eksValid s.dksValid = .ok := by
  rw [State.validate]; split <;> simp_all

theorem byteCount_lt {len : Nat} (i : Instr) (h : len < 2 ^ 32) : byteCount i len < 2 ^ 32 := by
  cases i <;> simp only [byteCount] <;> omega

theorem byteCount_byteCount (i : Instr) (len : Nat) : byteCount i (byteCount i len) = byteCount i len := by
  cases i <;> rfl

theorem byteCount_of_isMode {i : Instr} (h : isMode i = true) (len : Nat) : byteCount i len = len := by
  cases i <;> simp_all [isMode, byteCount]

/-- Validation of a command's byte count says what validation of `LEN` says: only the mode commands look at `LEN`, and their count
is `LEN` (R111, R263). -/
theorem validateOperands_byteCount (i : Instr) (bytes src dst len cur : Nat) :
    validateOperands i bytes src dst (byteCount i len) cur = validateOperands i bytes src dst len cur := by
  cases hm : isMode i with
  | true => rw [byteCount_of_isMode hm]
  | false => simp [validateOperands, hm, byteCount_byteCount]

theorem latchValid_start {s : State} {i : Instr} (h : s.validate i = .ok) :
    (s.clearCompletion.start i (byteCount i s.len.toNat)).latchValid i = true := by
  have hn : (BitVec.ofNat 32 (byteCount i s.len.toNat)).toNat = byteCount i s.len.toNat :=
    Nat.mod_eq_of_lt (byteCount_lt i s.len.isLt)
  have hv := ((s.validate_eq_ok_iff i).mp h).1
  rw [← validateOperands_byteCount, ← hn] at hv
  exact beq_iff_eq.mpr hv

/-! ### The invariant through each kind of step -/

/-- Idle and out of reset, a state is sound as soon as its configuration and DMEM are. -/
theorem inv_of_idle {s : State} (hc : s.cfg.legal) (hm : Memory.wf s.cfg.dmemBytes s.dmem) (hp : s.phase = .idle)
    (hr : s.inReset = false) : s.Inv :=
  ⟨hc, hm, fun h => by simp [hp] at h, fun h => by simp [hr] at h⟩

/-- Error completion out of reset leaves a sound state (R272). -/
theorem inv_raiseError {s : State} (code : ErrCode) (h : s.Inv) (hp : s.phase = .idle) (hr : s.inReset = false) :
    (s.clearCompletion.raiseError code).Inv :=
  let ⟨hc, hm, _, _⟩ := h
  inv_of_idle hc hm hp hr

/-- A command accepted out of reset leaves a sound state: it runs with validated operands latched, or has failed and is idle. -/
theorem inv_accept {s : State} (i : Instr) (h : s.Inv) (hp : s.phase = .idle) (hr : s.inReset = false) :
    (s.accept i).Inv := by
  rcases accept_cases i s with ⟨hv, e⟩ | ⟨-, e⟩
  · obtain ⟨hc, hm, -, -⟩ := h
    rw [e]
    refine ⟨hc, hm, fun _ => ?_, fun h => by simp [hr] at h⟩
    exact ⟨hr, rfl, rfl, rfl, latchValid_start hv, ((s.validate_eq_ok_iff i).mp hv).2⟩
  · rw [e]; exact inv_raiseError _ h hp hr

/-- A completed command leaves a sound state: it was not in reset, and its body keeps the canonical form of DMEM. -/
theorem inv_complete {s : State} (i : Instr) (h : s.Inv) (hp : s.phase = .run) : (commandBody i s).complete.Inv := by
  obtain ⟨hc, hm, hrun, -⟩ := h
  obtain ⟨hr, -⟩ := hrun hp
  have hcfg : (commandBody i s).cfg = s.cfg := by rw [commandBody_frame]
  have hres : (commandBody i s).inReset = s.inReset := by rw [commandBody_frame]
  exact inv_of_idle (hcfg ▸ hc) (dmemWf_commandBody i s hm) rfl (hres.trans hr)

/-- A write to `STATUS` out of reset keeps `DONE` clear while a command runs (R35). -/
theorem inv_writeStatus {s : State} (v : Word) (h : s.Inv) (hr : s.inReset = false) : (s.writeStatus v).Inv := by
  obtain ⟨hc, hm, hrun, -⟩ := h
  refine ⟨hc, hm, fun hp => ?_, fun h => by simp [hr] at h⟩
  obtain ⟨-, hd, hrest⟩ := hrun hp
  exact ⟨hr, by simp [hd], hrest⟩

/-- An ignored write sets only `IGN`, which a running command leaves open (R276). -/
theorem inv_setIgn {s : State} (h : s.Inv) (hr : s.inReset = false) : s.setIgn.Inv :=
  let ⟨hc, hm, hrun, _⟩ := h
  ⟨hc, hm, hrun, fun h => by simp [hr] at h⟩

theorem inv_writePort {s : State} (v : Word) (p : Port) (h : s.Inv) (hp : s.phase = .idle) (hr : s.inReset = false) :
    (s.writePort v p).Inv := by
  obtain ⟨hc, hm, -, -⟩ := h
  obtain ⟨m, hwf, e⟩ := writePort_frame s v p
  rw [e]; exact inv_of_idle hc (hwf hm) hp hr

theorem inv_writeByte {s : State} (a : Nat) (b : Byte) (h : s.Inv) (hp : s.phase = .idle) (hr : s.inReset = false) :
    (s.writeByte a b).Inv :=
  let ⟨hc, hm, _, _⟩ := h
  inv_of_idle hc (State.wf_writeByte a b hm) hp hr

theorem inv_answerOnly {s t : State} (ht : AnswerOnly s t) (h : s.Inv) : t.Inv := by
  rw [AnswerOnly] at ht; rw [ht]; exact h

/-- A host access that starts no command keeps the invariant. -/
theorem inv_hostAccess {s t : State} {a : Access} (h : s.Inv) (ht : s.hostAccess a = .stay t) : t.Inv := by
  have he := hostAccess_effect s a
  have hw : (s.respond .wrote).Inv := inv_answerOnly (respond_answerOnly s _) h
  generalize s.hostAccess a = act at he ht
  cases he with
  | answer _ _ hs => cases ht; exact inv_answerOnly hs h
  | status v hr => cases ht; exact inv_writeStatus v hw hr
  | ignored w off v hr hp ho => cases ht; exact inv_setIgn hw hr
  | command v hr hp =>
    rcases submit_cases (s.respond .wrote) v with ⟨i, -, e⟩ | ⟨-, -, e⟩
    · rw [e] at ht; cases ht
    · rw [e] at ht; cases ht; exact inv_raiseError _ hw hp hr
  | port off v hr hp ho hs hc => cases ht; exact inv_writePort v _ hw hp hr
  | byte off v hr hp ho => cases ht; exact inv_writeByte _ _ hw hp hr

theorem abandon_cfg (s : State) : s.abandon.cfg = s.cfg := by
  rw [State.abandon]; split
  · rfl
  · rw [scramble_frame]

theorem wf_abandon {s : State} (h : Memory.wf s.cfg.dmemBytes s.dmem) :
    Memory.wf s.abandon.cfg.dmemBytes s.abandon.dmem := by
  rw [State.abandon]; split
  · exact h
  · exact State.wf_scramble _ _ h

/-- Reset leaves a sound state: every register has its reset value, and an abandoned command's bytes are below `DMEM_BYTES`. -/
theorem inv_assertReset {s : State} (h : s.Inv) : s.assertReset.Inv := by
  obtain ⟨hc, hm, -, -⟩ := h
  refine ⟨?_, wf_abandon hm, ?_, ?_⟩
  · show s.abandon.cfg.legal
    rw [abandon_cfg]; exact hc
  · intro hp; cases hp
  · intro _; exact ⟨rfl, rfl, rfl, rfl, rfl, rfl, rfl, rfl, rfl, rfl, rfl, rfl, rfl⟩

theorem inv_releaseReset {s : State} (h : s.Inv) : s.releaseReset.Inv := by
  obtain ⟨hc, hm, hrun, -⟩ := h
  exact ⟨hc, hm, fun hp => ⟨rfl, (hrun hp).2⟩, fun h => by cases h⟩

/-- Settles O26: each of the step's cases keeps the invariant, by its lemma above. -/
theorem stepKeepsInvariant : Obligations.StepKeepsInvariant := by
  intro s t h hs
  have hpop : s.popEvent.Inv := h
  rcases step_cases hs with
    ⟨-, -, e⟩ | ⟨-, hp, -, e⟩ | ⟨a, -, -, ⟨i, -, hp, hr, -, e⟩ | e⟩ | ⟨-, e⟩ | ⟨-, e⟩
  · rw [e]; exact hpop
  · rw [e]; exact inv_complete _ hpop hp
  · rw [e]; exact inv_accept i (inv_answerOnly (respond_answerOnly _ _) hpop) hp hr
  · exact inv_hostAccess hpop e
  · rw [e]; exact inv_assertReset hpop
  · rw [e]; exact inv_releaseReset hpop

end Sys2Proof.Machine
end

section
/-!
PROOFS. The key is secret (10_state.md R41, R50, R51): two states that differ only in their secrets are led to the same action by the
same next input, and stay the same but for the secrets until a command completes.
-/

namespace Sys2Proof.Machine

/-! ### States that differ only in their secrets -/

/-- `s` with other secrets: the key, both schedules and the latched key. -/
def State.withSecrets (s : State) (key : Vector Word 8) (eks dks : Schedule) (k : Bytes32) : State :=
  { s with key := key, eks := eks, dks := dks, latch := { s.latch with k := k } }

theorem SameButSecrets.exists_withSecrets {s t : State} (h : SameButSecrets s t) :
    ∃ key eks dks k, t = s.withSecrets key eks dks k :=
  ⟨_, _, _, _, h⟩

theorem scramble_withSecrets (a n : Nat) (s : State) (key : Vector Word 8) (eks dks : Schedule) (k : Bytes32) :
    State.scramble a n (s.withSecrets key eks dks k) = (State.scramble a n s).withSecrets key eks dks k := by
  induction n generalizing a s with
  | zero => rfl
  | succ n ih => exact ih (a + 1) (s.writeByte a (Config.freeByte s.draws)).drawn

theorem abandon_withSecrets (s : State) (key : Vector Word 8) (eks dks : Schedule) (k : Bytes32) :
    (s.withSecrets key eks dks k).abandon = s.abandon.withSecrets key eks dks k := by
  rw [State.abandon, State.abandon, show (s.withSecrets key eks dks k).phase = s.phase from rfl]
  split
  · rfl
  · exact scramble_withSecrets _ _ s key eks dks k

section
variable {s t : State} (h : SameButSecrets s t)
include h

theorem SameButSecrets.cfg_eq : t.cfg = s.cfg := (congrArg State.cfg h :)
theorem SameButSecrets.inReset_eq : t.inReset = s.inReset := (congrArg State.inReset h :)
theorem SameButSecrets.phase_eq : t.phase = s.phase := (congrArg State.phase h :)
theorem SameButSecrets.busy_eq : t.busy = s.busy := (congrArg State.busy h :)
theorem SameButSecrets.events_eq : t.events = s.events := (congrArg State.events h :)
theorem SameButSecrets.draws_eq : t.draws = s.draws := (congrArg State.draws h :)

theorem SameButSecrets.readByte_eq (a : Nat) : t.readByte a = s.readByte a :=
  State.readByte_congr (congrArg State.dmem h) a

/-- No read shows a secret (R41). -/
theorem SameButSecrets.portValue_eq (p : Port) : t.portValue p = s.portValue p := by
  obtain ⟨_, _, _, _, rfl⟩ := h.exists_withSecrets
  cases p <;> rfl

theorem SameButSecrets.validate_eq (i : Instr) : t.validate i = s.validate i := by
  obtain ⟨_, _, _, _, rfl⟩ := h.exists_withSecrets; rfl

/-! ### Updates -/

theorem SameButSecrets.popEvent : SameButSecrets s.popEvent t.popEvent := by
  obtain ⟨_, _, _, _, rfl⟩ := h.exists_withSecrets; rfl

theorem SameButSecrets.respond (r : Response) : SameButSecrets (s.respond r) (t.respond r) := by
  obtain ⟨_, _, _, _, rfl⟩ := h.exists_withSecrets; rfl

theorem SameButSecrets.respondFree (v : Word) : SameButSecrets (s.respondFree v) (t.respondFree v) := by
  obtain ⟨_, _, _, _, rfl⟩ := h.exists_withSecrets; rfl

theorem SameButSecrets.setIgn : SameButSecrets s.setIgn t.setIgn := by
  obtain ⟨_, _, _, _, rfl⟩ := h.exists_withSecrets; rfl

theorem SameButSecrets.writeByte (a : Nat) (b : Byte) : SameButSecrets (s.writeByte a b) (t.writeByte a b) := by
  obtain ⟨_, _, _, _, rfl⟩ := h.exists_withSecrets; rfl

theorem SameButSecrets.writeColumn (a : Nat) (c : Column) :
    SameButSecrets (s.writeColumn a c) (t.writeColumn a c) := by
  obtain ⟨_, _, _, _, rfl⟩ := h.exists_withSecrets; rfl

theorem SameButSecrets.illegal :
    SameButSecrets (s.clearCompletion.raiseError .illegalCmd) (t.clearCompletion.raiseError .illegalCmd) := by
  obtain ⟨_, _, _, _, rfl⟩ := h.exists_withSecrets; rfl

theorem SameButSecrets.releaseReset : SameButSecrets s.releaseReset t.releaseReset := by
  obtain ⟨_, _, _, _, rfl⟩ := h.exists_withSecrets; rfl

/-! ### Reads and writes -/

theorem SameButSecrets.read32 (off : Nat) : SameButSecrets (s.read32 off) (t.read32 off) := by
  rw [State.read32, State.read32, h.busy_eq, h.draws_eq, h.portValue_eq]
  split
  · exact h.respondFree _
  · exact h.respond _

theorem SameButSecrets.read8 (off : Nat) : SameButSecrets (s.read8 off) (t.read8 off) := by
  rw [State.read8, State.read8, h.busy_eq, h.draws_eq, h.cfg_eq, h.readByte_eq]
  split
  · exact h.respondFree _
  · split
    · exact h.respond _
    · exact h.respond _

theorem SameButSecrets.accessInReset (a : Access) : SameButSecrets (s.accessInReset a) (t.accessInReset a) := by
  rw [State.accessInReset.eq_def, State.accessInReset.eq_def, h.draws_eq]
  split
  · exact h.respondFree _
  · exact h.respondFree _
  · exact h.respond _

theorem SameButSecrets.writePort (v : Word) (p : Port) : SameButSecrets (s.writePort v p) (t.writePort v p) := by
  cases p with
  | dmem a =>
    rw [State.writePort, State.writePort, h.cfg_eq]
    split
    · exact h.writeColumn _ _
    · exact h
  | _ => obtain ⟨_, _, _, _, rfl⟩ := h.exists_withSecrets; rfl

theorem SameButSecrets.write8 (off : Nat) (b : Byte) : SameButSecrets (s.write8 off b) (t.write8 off b) := by
  rw [State.write8, State.write8, h.busy_eq]
  split
  · exact h.setIgn
  · exact h.writeByte _ b

/-! ### Acceptance and reset -/

/-- Acceptance copies the key into the latches only (R115). -/
theorem SameButSecrets.accept (i : Instr) : SameButSecrets (s.accept i) (t.accept i) := by
  have hv := h.validate_eq i
  obtain ⟨_, _, _, _, rfl⟩ := h.exists_withSecrets
  rcases accept_cases i s with ⟨hok, e⟩ | ⟨hbad, e⟩
  · rw [e, accept_of_valid (hv.trans hok)]; rfl
  · rw [e, accept_of_invalid (hv ▸ hbad), hv]; rfl

/-- Asserting reset wipes every secret (R60, R300). -/
theorem SameButSecrets.assertReset_eq : t.assertReset = s.assertReset := by
  obtain ⟨_, _, _, _, rfl⟩ := h.exists_withSecrets
  rw [State.assertReset, abandon_withSecrets]; rfl

end

/-! ### What happens next -/

/-- The same action, on states that differ only in their secrets. -/
inductive SameAction : Action → Action → Prop
  | stay {s t : State} (h : SameButSecrets s t) : SameAction (.stay s) (.stay t)
  | run {s t : State} (i : Instr) (h : SameButSecrets s t) : SameAction (.run i s) (.run i t)

section
variable {s t : State} (h : SameButSecrets s t)
include h

theorem SameButSecrets.submit (v : Word) : SameAction (s.submit v) (t.submit v) := by
  rw [State.submit, State.submit]
  split
  · exact .run _ h
  · exact .stay h.illegal

theorem SameButSecrets.write32 (off : Nat) (v : Word) : SameAction (s.write32 off v) (t.write32 off v) := by
  rw [State.write32, State.write32, h.busy_eq]
  split
  · exact .stay (h.writePort v .status)
  · split
    · exact .stay h.setIgn
    · split
      · exact h.submit v
      · exact .stay (h.writePort v _)

theorem SameButSecrets.accessAt (off : Nat) (a : Access) : SameAction (s.accessAt off a) (t.accessAt off a) := by
  cases a with
  | read w addr =>
    rw [State.accessAt, State.accessAt]
    split
    · split
      · exact .stay (h.read32 off)
      · exact .stay (h.read8 off)
    · exact .stay (h.respond _)
  | write w addr v =>
    rw [State.accessAt, State.accessAt]
    split
    · split
      · exact (h.respond _).write32 off v
      · exact .stay ((h.respond _).write8 off _)
    · exact .stay (h.respond _)

theorem SameButSecrets.hostAccess (a : Access) : SameAction (s.hostAccess a) (t.hostAccess a) := by
  rw [State.hostAccess, State.hostAccess, h.cfg_eq, h.inReset_eq]
  split
  · exact .stay (h.respond _)
  · split
    · exact .stay (h.accessInReset a)
    · exact h.accessAt _ a

theorem SameButSecrets.engineTurn : SameAction s.engineTurn t.engineTurn := by
  have hop : t.latch.op = s.latch.op := congrArg (·.latch.op) h
  rw [State.engineTurn, State.engineTurn, h.phase_eq, hop]
  split
  · exact .stay h
  · exact .run _ h

theorem SameButSecrets.nextAction : SameAction s.nextAction t.nextAction := by
  rw [State.nextAction, State.nextAction, h.events_eq]
  split
  · exact h.engineTurn
  · exact h.popEvent.engineTurn
  · exact h.popEvent.hostAccess _
  · rw [h.popEvent.assertReset_eq]; exact .stay rfl
  · exact .stay h.popEvent.releaseReset

end

/-! ### Command transitions that complete nothing -/

theorem engineTurn_run {s t : State} {i : Instr} (h : s.engineTurn = .run i t) : s.phase = .run := by
  cases hp : s.phase with
  | idle => rw [State.engineTurn, hp] at h; cases h
  | run => rfl

/-- A host access leads to a transition of a command only while the engine is idle. -/
theorem hostAccess_run_idle {s t : State} {a : Access} {i : Instr} (h : s.hostAccess a = .run i t) : t.phase = .idle := by
  have he := hostAccess_effect s a
  generalize s.hostAccess a = act at he h
  cases he with
  | command v hr hp =>
    rcases submit_cases (s.respond .wrote) v with ⟨j, -, e⟩ | ⟨-, -, e⟩
    · rw [e] at h; cases h; exact hp
    · rw [e] at h; cases h
  | _ => cases h

/-- A command's transition is its acceptance while idle, unless the next step completes it. -/
theorem phase_idle_of_nextAction_run {s t : State} {i : Instr} (hc : ¬ s.completesNext) (h : s.nextAction = .run i t) :
    t.phase = .idle := by
  rw [State.nextAction] at h
  split at h
  · next he => exact absurd ⟨engineTurn_run h, .inl he⟩ hc
  · next he => exact absurd ⟨engineTurn_run (s := s.popEvent) h, .inr (by rw [he]; rfl)⟩ hc
  · exact hostAccess_run_idle h
  · cases h
  · cases h

/-- Settles O48: the same next input leads to the same action, and acceptance, the only command transition that is no completion,
keeps the states the same but for the secrets. The hypothesis on free values is not needed: the model draws the same ones in
both runs (notes/assumptions/4.md). -/
theorem keyIsSecret : Obligations.KeyIsSecret := by
  intro s t u h hc hs _
  have ha := h.nextAction
  rw [step] at hs ⊢
  generalize hn : s.nextAction = act at ha hs
  generalize t.nextAction = act' at ha
  cases ha with
  | stay h' => cases hs; exact ⟨_, rfl, h'⟩
  | @run a b i h' =>
    have hp := phase_idle_of_nextAction_run hc hn
    replace hs : exec i a = .next u := hs
    rw [exec_of_idle hp] at hs
    cases hs
    exact ⟨_, exec_of_idle (h'.phase_eq.trans hp), h'.accept i⟩

end Sys2Proof.Machine
end

section
/-!
PROOFS. The registers as the host sees them (10_state.md R32 to R42, R60): the words of `STATUS` and `CTRL`, reads running and idle,
writes while idle, and the values right after reset.
-/

namespace Sys2Proof.Machine

/-! ### Right after reset -/

/-- Settles O25: the reset state is idle and out of reset, with the spec's default size of DMEM and nothing written. -/
theorem resetMeetsInvariant : Obligations.ResetMeetsInvariant :=
  inv_of_idle (by decide) State.wf_reset rfl rfl

/-- Settles O32: each register of `State.reset` has R60's value. -/
theorem resetValues : Obligations.ResetValues :=
  ⟨⟨rfl, rfl, rfl, rfl, rfl, rfl, rfl, rfl, rfl, rfl, rfl, rfl, rfl⟩, rfl, rfl, by decide, by decide, rfl⟩

/-! ### The words of `STATUS` and `CTRL` -/

/-- The lowest field of a word, when it is one bit. -/
theorem append_flagBit_getLsbD_zero {n : Nat} (x : BitVec n) (b : Bool) : (x ++ flagBit b).getLsbD 0 = b := by
  rw [BitVec.getLsbD_append, if_pos Nat.one_pos]; cases b <;> rfl

/-- A bit above the lowest field of a word. -/
theorem append_getLsbD_of_le {n m i : Nat} (x : BitVec n) (y : BitVec m) (h : m ≤ i) :
    (x ++ y).getLsbD i = x.getLsbD (i - m) := by
  rw [BitVec.getLsbD_append, if_neg (by omega)]

theorem State.busy_iff (s : State) : s.busy = true ↔ s.phase = .run :=
  beq_iff_eq

theorem ErrCode.code_toNat_le (e : ErrCode) : e.code.toNat ≤ 6 := by
  cases e <;> decide

theorem State.statusWord_err (s : State) : s.statusWord.extractLsb' 4 4 = s.err.code := by
  rw [State.statusWord, BitVec.extractLsb'_append_eq_of_le (by decide), BitVec.extractLsb'_append_eq_of_le (by decide),
    BitVec.extractLsb'_append_eq_of_le (by decide), BitVec.extractLsb'_append_eq_of_le (by decide),
    BitVec.extractLsb'_append_eq_of_add_le (by decide), BitVec.extractLsb'_eq_self]

theorem State.statusWord_reserved (s : State) : s.statusWord.extractLsb' 10 22 = 0 := by
  rw [State.statusWord]
  iterate 7 rw [BitVec.extractLsb'_append_eq_of_le (by decide)]
  exact BitVec.extractLsb'_eq_self

/-- Settles O40: `STATUS` is a concatenation, so each field is read off it by the laws of `++`. -/
theorem statusWordFields : Obligations.StatusWordFields := by
  refine ⟨fun s => ⟨?_, ?_, ?_, ?_, s.statusWord_err, ?_, ?_, ?_, s.statusWord_reserved⟩, by decide⟩
  · rw [← s.busy_iff, State.statusWord, append_flagBit_getLsbD_zero]
  · rw [State.statusWord, append_getLsbD_of_le _ _ (by decide)]
    exact append_flagBit_getLsbD_zero _ _
  · rw [State.statusWord]
    iterate 2 rw [append_getLsbD_of_le _ _ (by decide)]
    exact append_flagBit_getLsbD_zero _ _
  · rw [State.statusWord]
    iterate 3 rw [append_getLsbD_of_le _ _ (by decide)]
    exact append_flagBit_getLsbD_zero _ false
  · rw [s.statusWord_err]; exact s.err.code_toNat_le
  · rw [State.statusWord]
    iterate 5 rw [append_getLsbD_of_le _ _ (by decide)]
    exact append_flagBit_getLsbD_zero _ _
  · rw [State.statusWord]
    iterate 6 rw [append_getLsbD_of_le _ _ (by decide)]
    exact append_flagBit_getLsbD_zero _ _

theorem State.ctrlWord_ie (s : State) : s.ctrlWord.getLsbD 0 = s.ie :=
  append_flagBit_getLsbD_zero _ _

theorem State.ctrlWord_reserved (s : State) : s.ctrlWord.extractLsb' 1 31 = 0 :=
  BitVec.extractLsb'_append_eq_left

/-! ### Offsets of the register groups -/

theorem portOf_key (k : Fin 8) : portOf (0x020 + 4 * k.val) = .key k := by
  revert k; decide

theorem portOf_iv (k : Fin 8) : portOf (0x040 + 4 * k.val) = .iv k := by
  revert k; decide

/-! ### Reads -/

/-- A 32-bit read of a port whose value is specified returns it and has no side effect (R32, R88). -/
theorem step_read32_value {s : State} {off : Nat} {rest : List Event} (p : Port) (hr : s.inReset = false)
    (ho : off < 0x20000) (h4 : off % 4 = 0) (hp : portOf off = p)
    (hu : s.busy = false ∨ p.unspecifiedWhileBusy = false)
    (he : s.events = .host (.read 32 (s.cfg.base + off)) :: rest) :
    step s = .next { s with events := rest, resp := .read (s.portValue p) } := by
  have hn : (({ s with events := rest } : State).busy && p.unspecifiedWhileBusy) = false :=
    Bool.and_eq_false_iff.mpr hu
  have hv : ({ s with events := rest } : State).portValue p = s.portValue p := by cases p <;> rfl
  rw [step_read32 hr ho h4 he, State.read32, hp, hv, hn]; rfl

/-- What `State.steadyReads` lists: aligned offsets of ports whose value is specified at all times, with the value. -/
theorem steadyReads_portValue {s : State} {off : Nat} {v : Word} (h : (off, v) ∈ s.steadyReads) :
    off < 0x20000 ∧ off % 4 = 0 ∧ (portOf off).unspecifiedWhileBusy = false ∧ s.portValue (portOf off) = v := by
  simp only [State.steadyReads, List.mem_cons, List.not_mem_nil, or_false, Prod.mk.injEq] at h
  rcases h with ⟨rfl, rfl⟩ | ⟨rfl, rfl⟩ | ⟨rfl, rfl⟩ | ⟨rfl, rfl⟩ | ⟨rfl, rfl⟩ | ⟨rfl, rfl⟩ | ⟨rfl, rfl⟩ | ⟨rfl, rfl⟩ |
    ⟨rfl, rfl⟩ | ⟨rfl, rfl⟩ | ⟨rfl, rfl⟩ | ⟨rfl, rfl⟩ | ⟨rfl, rfl⟩ | ⟨rfl, rfl⟩ | ⟨rfl, rfl⟩ <;>
  exact ⟨by decide, rfl, rfl, rfl⟩

theorem step_read32_reserved {s : State} {off : Nat} {rest : List Event} (hr : s.inReset = false) (h1 : 0x060 ≤ off)
    (h2 : off < 0x10000) (h4 : off % 4 = 0) (he : s.events = .host (.read 32 (s.cfg.base + off)) :: rest) :
    step s = .next { s with events := rest, resp := .read 0 } :=
  step_read32_value .reserved hr (by omega) h4 (portOf_reserved h1 h2) (.inr rfl) he

/-- Settles O35: none of these ports is one that is unspecified while a command runs. -/
theorem steadyRegisterReads : Obligations.SteadyRegisterReads := by
  refine ⟨fun s off v rest hr h he => ?_, fun s => ⟨s.ctrlWord_ie, s.ctrlWord_reserved⟩⟩
  rcases h with h | ⟨h1, h2, h4, rfl⟩
  · obtain ⟨ho, h4, hu, rfl⟩ := steadyReads_portValue h
    exact step_read32_value _ hr ho h4 rfl (.inr hu) he
  · exact step_read32_reserved hr h1 h2 h4 he

theorem State.busy_of_idle {s : State} (hp : s.phase = .idle) : s.busy = false := by
  rw [State.busy, hp]; rfl

/-- An 8-bit read of DMEM while idle. -/
theorem step_read8_idle {s : State} {a : Nat} {rest : List Event} (hr : s.inReset = false) (hp : s.phase = .idle)
    (ha : a < 0x10000) (he : s.events = .host (.read 8 (s.cfg.base + (0x10000 + a))) :: rest) :
    step s = .next { s with
      events := rest
      resp := .read (if a < s.cfg.dmemBytes then (s.readByte a).setWidth 32 else 0) } := by
  have hb : ({ s with events := rest } : State).busy = false := State.busy_of_idle hp
  rw [step_read8 hr (by omega) (by omega) he, State.read8, hb, Nat.add_sub_cancel_left, if_neg (by decide)]
  show Host.Outcome.next (if a < s.cfg.dmemBytes then _ else _) = _
  split <;> rfl

/-- Settles O36: while idle every read returns its port's value, and DMEM its bytes. -/
theorem idleReadsReturnContents : Obligations.IdleReadsReturnContents := by
  intro s rest hr hp
  have hb := State.busy_of_idle hp
  refine ⟨fun he => ?_, fun k he => ?_, fun off h1 h2 h4 he => step_read32_reserved hr h1 h2 h4 he,
    fun a ha he => step_read8_idle hr hp ha he, fun a ha h4 he => ?_⟩
  · rw [step_read32_value .cursor hr (by decide) rfl rfl (.inl hb) he, BitVec.setWidth_eq_append (by decide)]; rfl
  · rw [Nat.add_assoc] at he
    exact step_read32_value (.iv k) hr (by omega) (by omega) (portOf_iv k) (.inl hb) he
  · exact step_read32_value (.dmem a) hr (by omega) (by omega) (portOf_dmem a) (.inl hb) he

/-- A 32-bit read has no side effect but its answer, running or not (R88). -/
theorem read32_answers (s : State) (off : Nat) : ∃ v d, s.read32 off = { s with resp := .read v, draws := d } := by
  rw [State.read32]; split
  · exact ⟨_, _, rfl⟩
  · exact ⟨_, _, rfl⟩

/-- An 8-bit read has no side effect but its answer, running or not (R88). -/
theorem read8_answers (s : State) (off : Nat) : ∃ v d, s.read8 off = { s with resp := .read v, draws := d } := by
  rw [State.read8]; split
  · exact ⟨_, _, rfl⟩
  · split
    · exact ⟨_, _, rfl⟩
    · exact ⟨_, _, rfl⟩

/-- Settles O37: no read changes more than the answer and the count of free values. -/
theorem busyReadsChangeNothing : Obligations.BusyReadsChangeNothing := by
  intro s width off rest hr _ ho hw he
  rcases hw with ⟨rfl, h4, -⟩ | ⟨rfl, h8⟩
  · obtain ⟨v, d, e⟩ := read32_answers { s with events := rest } off
    exact ⟨v, d, by rw [step_read32 hr ho h4 he, e]⟩
  · obtain ⟨v, d, e⟩ := read8_answers { s with events := rest } off
    exact ⟨v, d, by rw [step_read8 hr ho h8 he, e]⟩

/-! ### Writes -/

/-- A 32-bit write while idle, to any port but `STATUS` and `CMD`, is `State.writePort`. -/
theorem step_write32_idle {s : State} {off : Nat} {v : Word} {rest : List Event} (p : Port) (hr : s.inReset = false)
    (hp : s.phase = .idle) (ho : off < 0x20000) (h4 : off % 4 = 0) (hport : portOf off = p) (hs : p ≠ .status)
    (hc : p ≠ .cmd) (he : s.events = .host (.write 32 (s.cfg.base + off) v) :: rest) :
    step s = .next (({ s with events := rest, resp := .wrote } : State).writePort v p) := by
  have hb : ({ s with events := rest, resp := .wrote } : State).busy = false := State.busy_of_idle hp
  rw [step, nextAction_write32 hr ho h4 he, State.write32, hport, if_neg hs, hb, if_neg (by decide), if_neg hc]

/-- Settles O38: each clause is `State.writePort` at its port. -/
theorem idleRegisterWrites : Obligations.IdleRegisterWrites := by
  intro s off v rest hr hp he
  refine ⟨?_, ?_, ?_, ?_, ?_, ?_, fun k => ?_, fun k => ?_⟩
  · rintro (rfl | ⟨h1, h2, h4⟩)
    · exact step_write32_idle .id hr hp (by decide) rfl rfl (by decide) (by decide) he
    · exact step_write32_idle .reserved hr hp (by omega) h4 (portOf_reserved h1 h2) (by decide) (by decide) he
  · rintro rfl; exact step_write32_idle .ctrl hr hp (by decide) rfl rfl (by decide) (by decide) he
  · rintro rfl; exact step_write32_idle .src hr hp (by decide) rfl rfl (by decide) (by decide) he
  · rintro rfl; exact step_write32_idle .dst hr hp (by decide) rfl rfl (by decide) (by decide) he
  · rintro rfl; exact step_write32_idle .len hr hp (by decide) rfl rfl (by decide) (by decide) he
  · rintro rfl; exact step_write32_idle .cursor hr hp (by decide) rfl rfl (by decide) (by decide) he
  · rintro rfl; exact step_write32_idle (.key k) hr hp (by omega) (by omega) (portOf_key k) (by simp) (by simp) he
  · rintro rfl; exact step_write32_idle (.iv k) hr hp (by omega) (by omega) (portOf_iv k) (by simp) (by simp) he

theorem writeStatus_eq (s : State) (v : Word) :
    s.writeStatus v =
      { s with done := if v.getLsbD 1 then false else s.done, ign := if v.getLsbD 2 then false else s.ign } := by
  rw [State.writeStatus]; cases v.getLsbD 1 <;> cases v.getLsbD 2 <;> simp

/-- Settles O39: `Write32` takes a write to `STATUS` before it looks at `BUSY`. -/
theorem statusWriteClears : Obligations.StatusWriteClears := by
  intro s v rest hr he
  rw [step, nextAction_write32 hr (by decide) rfl he, State.write32,
    if_pos (show portOf 0x008 = .status from rfl), writeStatus_eq]

end Sys2Proof.Machine
end

section
/-!
PROOFS. Which steps change the schedules and the operand registers (10_state.md R34 to R42, R50 to R52): the bodies' effect on each,
then each kind of step.
-/

namespace Sys2Proof.Machine

/-! ### What a body does to the schedules, the IV and the cursor -/

/-- The schedule that a command derives before it moves data, if any (R160, R161, R200, R201, R222, R241, R242). -/
def deriveSchedule : Instr → State → State
  | .kse | .cbce | .ctr | .igee => deriveEks
  | .ksd | .cbcd | .iged => deriveDks
  | .encb | .decb => id

/-- The parts of the host's registers that a body may write (R42, R39), with the commands that do. -/
inductive WritesBack (t : State) : Instr → State → Prop
  | nothing (i : Instr) : WritesBack t i t
  | iv (i : Instr) (b : Block) (h : i = .cbce ∨ i = .cbcd) : WritesBack t i (t.setIv16 b)
  | ivCursor (b : Block) (c : BitVec 8) : WritesBack t .ctr ((t.setIv16 b).setCur c)

seal expandKey expandDecKey encryptBlock decryptBlock in
/-- A body derives its schedule, works on DMEM and the working registers, and writes back the IV and the cursor. -/
theorem commandBody_effect (i : Instr) (s : State) :
    ∃ t, DataOnly (deriveSchedule i s) t ∧ WritesBack t i (commandBody i s) := by
  cases i with
  | kse => exact ⟨_, .refl _, .nothing _⟩
  | ksd => exact ⟨_, .refl _, .nothing _⟩
  | encb => exact ⟨bodyEncb s, rfl, .nothing _⟩
  | decb => exact ⟨bodyDecb s, rfl, .nothing _⟩
  | cbce =>
    have h : DataOnly (deriveEks s) (cbcInit (deriveEks s)) := rfl
    exact ⟨_, h.trans (repeatBody_dataOnly cbcEncBlock_dataOnly _ _), .iv _ _ (.inl rfl)⟩
  | cbcd =>
    have h : DataOnly (deriveDks s) (cbcInit (deriveDks s)) := rfl
    exact ⟨_, h.trans (repeatBody_dataOnly cbcDecBlock_dataOnly _ _), .iv _ _ (.inr rfl)⟩
  | ctr =>
    obtain ⟨t, ht, c, e⟩ := ctrLoop_frame s.latch.n.toNat 0 s.latch.cur.toNat (ctrInit (deriveEks s))
    refine ⟨t, (ctrInit_dataOnly (deriveEks s)).trans ht, ?_⟩
    rw [commandBody, bodyCtr, e]; exact .ivCursor _ _
  | igee =>
    have h : DataOnly (deriveEks s) (igeInit s.latch.iv.lo s.latch.iv.hi (deriveEks s)) := rfl
    exact ⟨bodyIgee s, h.trans (repeatBody_dataOnly igeEncBlock_dataOnly _ _), .nothing _⟩
  | iged =>
    have h : DataOnly (deriveDks s) (igeInit s.latch.iv.hi s.latch.iv.lo (deriveDks s)) := rfl
    exact ⟨bodyIged s, h.trans (repeatBody_dataOnly igeDecBlock_dataOnly _ _), .nothing _⟩

/-- No body clears `EKS_VALID` (R52). -/
theorem commandBody_eksValid (i : Instr) {s : State} (h : s.eksValid = true) : (commandBody i s).eksValid = true := by
  obtain ⟨t, ht, hw⟩ := commandBody_effect i s
  have hd : (deriveSchedule i s).eksValid = true := by cases i <;> simp [deriveSchedule, h]
  have he : t.eksValid = true := (congrArg State.eksValid ht :).trans hd
  generalize commandBody i s = u at hw ⊢
  cases hw with
  | _ => exact he

/-- No body clears `DKS_VALID` (R52). -/
theorem commandBody_dksValid (i : Instr) {s : State} (h : s.dksValid = true) : (commandBody i s).dksValid = true := by
  obtain ⟨t, ht, hw⟩ := commandBody_effect i s
  have hd : (deriveSchedule i s).dksValid = true := by cases i <;> simp [deriveSchedule, h]
  have he : t.dksValid = true := (congrArg State.dksValid ht :).trans hd
  generalize commandBody i s = u at hw ⊢
  cases hw with
  | _ => exact he

theorem deriveSchedule_cur (i : Instr) (s : State) : (deriveSchedule i s).cur = s.cur := by
  cases i <;> simp [deriveSchedule]

theorem deriveSchedule_iv (i : Instr) (s : State) : (deriveSchedule i s).iv = s.iv := by
  cases i <;> simp [deriveSchedule]

/-- Only CTR writes the cursor (R39, R226). -/
theorem commandBody_cur {i : Instr} (s : State) (hi : i ≠ .ctr) : (commandBody i s).cur = s.cur := by
  obtain ⟨t, ht, hw⟩ := commandBody_effect i s
  have he : t.cur = s.cur := (congrArg State.cur ht :).trans (deriveSchedule_cur i s)
  generalize commandBody i s = u at hw ⊢
  cases hw with
  | ivCursor => exact absurd rfl hi
  | _ => exact he

/-- Only CBC and CTR write the IV back (R42). -/
theorem commandBody_iv {i : Instr} (s : State) (hi : ¬ (i = .cbce ∨ i = .cbcd ∨ i = .ctr)) :
    (commandBody i s).iv = s.iv := by
  obtain ⟨t, ht, hw⟩ := commandBody_effect i s
  have he : t.iv = s.iv := (congrArg State.iv ht :).trans (deriveSchedule_iv i s)
  generalize commandBody i s = u at hw ⊢
  cases hw with
  | nothing => exact he
  | iv _ b h => exact absurd (h.imp_right .inl) hi
  | ivCursor => exact absurd (.inr (.inr rfl)) hi

/-! ### What a host access does to the schedules and the operand registers -/

/-- Neither schedule nor validity bit changes. -/
structure KeepsSchedules (s t : State) : Prop where
  eks : t.eks = s.eks
  dks : t.dks = s.dks
  eksValid : t.eksValid = s.eksValid
  dksValid : t.dksValid = s.dksValid

/-- None of `CTRL`, `SRC`, `DST`, `LEN`, `CURSOR`, `KEYk` and `IVk` changes. -/
structure KeepsOperands (s t : State) : Prop where
  ie : t.ie = s.ie
  src : t.src = s.src
  dst : t.dst = s.dst
  len : t.len = s.len
  cur : t.cur = s.cur
  key : t.key = s.key
  iv : t.iv = s.iv

theorem KeepsSchedules.trans {s t u : State} (h : KeepsSchedules s t) (h' : KeepsSchedules t u) : KeepsSchedules s u :=
  ⟨h'.eks.trans h.eks, h'.dks.trans h.dks, h'.eksValid.trans h.eksValid, h'.dksValid.trans h.dksValid⟩

theorem KeepsOperands.trans {s t u : State} (h : KeepsOperands s t) (h' : KeepsOperands t u) : KeepsOperands s u :=
  ⟨h'.ie.trans h.ie, h'.src.trans h.src, h'.dst.trans h.dst, h'.len.trans h.len, h'.cur.trans h.cur,
    h'.key.trans h.key, h'.iv.trans h.iv⟩

theorem popEvent_keepsSchedules (s : State) : KeepsSchedules s s.popEvent := ⟨rfl, rfl, rfl, rfl⟩

theorem popEvent_keepsOperands (s : State) : KeepsOperands s s.popEvent := ⟨rfl, rfl, rfl, rfl, rfl, rfl, rfl⟩

theorem AnswerOnly.keepsSchedules {s t : State} (h : AnswerOnly s t) : KeepsSchedules s t := by
  rw [AnswerOnly] at h; rw [h]; exact ⟨rfl, rfl, rfl, rfl⟩

theorem AnswerOnly.keepsOperands {s t : State} (h : AnswerOnly s t) : KeepsOperands s t := by
  rw [AnswerOnly] at h; rw [h]; exact ⟨rfl, rfl, rfl, rfl, rfl, rfl, rfl⟩

theorem accept_keepsSchedules (i : Instr) (s : State) : KeepsSchedules s (s.accept i) := by
  rcases accept_cases i s with ⟨-, e⟩ | ⟨-, e⟩
  · rw [e]; exact ⟨rfl, rfl, rfl, rfl⟩
  · rw [e]; exact ⟨rfl, rfl, rfl, rfl⟩

theorem writePort_keepsSchedules (s : State) (v : Word) (p : Port) : KeepsSchedules s (s.writePort v p) := by
  obtain ⟨m, -, e⟩ := writePort_frame s v p
  rw [e]; exact ⟨rfl, rfl, rfl, rfl⟩

theorem writeByte_keepsSchedules (s : State) (a : Nat) (b : Byte) : KeepsSchedules s (s.writeByte a b) :=
  ⟨rfl, rfl, rfl, rfl⟩

theorem writeByte_keepsOperands (s : State) (a : Nat) (b : Byte) : KeepsOperands s (s.writeByte a b) :=
  ⟨rfl, rfl, rfl, rfl, rfl, rfl, rfl⟩

/-- The host cannot change a schedule (R50, R51). -/
theorem hostAccess_keepsSchedules {s t : State} {a : Access} (h : s.hostAccess a = .stay t) : KeepsSchedules s t := by
  have he := hostAccess_effect s a
  have hw : KeepsSchedules s (s.respond .wrote) := (respond_answerOnly s _).keepsSchedules
  generalize s.hostAccess a = act at he h
  cases he with
  | answer _ _ hs => cases h; exact hs.keepsSchedules
  | status | ignored => cases h; exact ⟨rfl, rfl, rfl, rfl⟩
  | byte => cases h; exact hw.trans (writeByte_keepsSchedules _ _ _)
  | command v =>
    rcases submit_cases (s.respond .wrote) v with ⟨i, -, e⟩ | ⟨-, -, e⟩
    · rw [e] at h; cases h
    · rw [e] at h; cases h; exact ⟨rfl, rfl, rfl, rfl⟩
  | port off v => cases h; exact hw.trans (writePort_keepsSchedules _ v _)

/-- The host changes an operand register only by a 32-bit write while idle (R276). -/
theorem hostAccess_keepsOperands {s t : State} {a : Access} (h : s.hostAccess a = .stay t) :
    KeepsOperands s t ∨ (s.phase = .idle ∧ ∃ addr v, a = .write 32 addr v) := by
  have he := hostAccess_effect s a
  generalize s.hostAccess a = act at he h
  cases he with
  | answer _ _ hs => cases h; exact .inl hs.keepsOperands
  | status | ignored => cases h; exact .inl ⟨rfl, rfl, rfl, rfl, rfl, rfl, rfl⟩
  | byte => cases h; exact .inl ((respond_answerOnly s _).keepsOperands.trans (writeByte_keepsOperands _ _ _))
  | command v hr hp => exact .inr ⟨hp, _, v, rfl⟩
  | port off v hr hp => exact .inr ⟨hp, _, v, rfl⟩

/-! ### Each step -/

/-- A step that neither completes a command nor resets keeps the schedules. -/
theorem step_keepsSchedules_cases {s t : State} (h : step s = .next t) :
    KeepsSchedules s t ∨ s.events.head? = some .assertReset ∨
      (s.completesNext ∧ t = (commandBody s.latch.op s.popEvent).complete) := by
  rcases step_cases h with
    ⟨-, -, e⟩ | ⟨hev, hp, -, e⟩ | ⟨a, -, -, ⟨i, -, -, -, -, e⟩ | e⟩ | ⟨hev, -⟩ | ⟨-, e⟩
  · rw [e]; exact .inl (popEvent_keepsSchedules s)
  · exact .inr (.inr ⟨⟨hp, hev⟩, e⟩)
  · rw [e]
    have hw := (respond_answerOnly s.popEvent .wrote).keepsSchedules
    exact .inl ((popEvent_keepsSchedules s).trans (hw.trans (accept_keepsSchedules i _)))
  · exact .inl ((popEvent_keepsSchedules s).trans (hostAccess_keepsSchedules e))
  · exact .inr (.inl hev)
  · rw [e]; exact .inl ⟨rfl, rfl, rfl, rfl⟩

/-- Settles O46: a completing body sets validity bits and clears none; every other step but reset keeps the schedules. -/
theorem validityBitsClearedOnlyByReset : Obligations.ValidityBitsClearedOnlyByReset := by
  intro s t h hr
  rcases step_keepsSchedules_cases h with ⟨he, hd, hev, hdv⟩ | h' | ⟨hc, e⟩
  · exact ⟨fun h => hev.trans h, fun h => hdv.trans h, fun _ => ⟨he, hd, hev, hdv⟩⟩
  · exact absurd h' hr
  · rw [e]
    exact ⟨commandBody_eksValid (s := s.popEvent) _, commandBody_dksValid (s := s.popEvent) _, fun hn => absurd hc hn⟩

/-- A step that is no reset, no completion and no write by the host while idle keeps the operand registers. -/
theorem step_keepsOperands_cases {s t : State} (h : step s = .next t) :
    KeepsOperands s t ∨
      (s.events.head? = some .assertReset ∨
        (s.phase = .idle ∧ ∃ addr v, s.events.head? = some (.host (.write 32 addr v)))) ∨
      (s.completesNext ∧ t = (commandBody s.latch.op s.popEvent).complete) := by
  rcases step_cases h with
    ⟨-, -, e⟩ | ⟨hev, hp, -, e⟩ | ⟨a, rest, hev, ⟨i, -, hp, -, ⟨v, rfl, -⟩, -⟩ | e⟩ | ⟨hev, -⟩ | ⟨-, e⟩
  · rw [e]; exact .inl (popEvent_keepsOperands s)
  · exact .inr (.inr ⟨⟨hp, hev⟩, e⟩)
  · exact .inr (.inl (.inr ⟨hp, _, v, by rw [hev]; rfl⟩))
  · rcases hostAccess_keepsOperands e with hk | ⟨hp, addr, v, rfl⟩
    · exact .inl ((popEvent_keepsOperands s).trans hk)
    · exact .inr (.inl (.inr ⟨hp, addr, v, by rw [hev]; rfl⟩))
  · exact .inr (.inl (.inl hev))
  · rw [e]; exact .inl ⟨rfl, rfl, rfl, rfl, rfl, rfl, rfl⟩

/-- Settles O47: besides reset and the host, only a completion is left, and a body writes back no more than the cursor and the IV. -/
theorem operandRegistersChangeOnlyByHost : Obligations.OperandRegistersChangeOnlyByHost := by
  intro s t h byHost
  rcases step_keepsOperands_cases h with ⟨hie, hsrc, hdst, hlen, hcur, hkey, hiv⟩ | hb | ⟨hc, rfl⟩
  · refine ⟨fun hn => absurd ?_ hn, fun hn => absurd hcur hn, fun hn => absurd hiv hn⟩
    rw [hie, hsrc, hdst, hlen, hkey]
  · exact ⟨fun _ => hb, fun _ => .inl hb, fun _ => .inl hb⟩
  · refine ⟨fun hn => absurd ?_ hn, fun hn => .inr ⟨hc, ?_⟩, fun hn => .inr ⟨hc, ?_⟩⟩
    · rw [commandBody_frame]; rfl
    · by_contra hi; exact hn (commandBody_cur s.popEvent hi)
    · by_contra hi; exact hn (commandBody_iv s.popEvent hi)

end Sys2Proof.Machine
end

section
/-!
PROOFS. Writes of a byte and of a word to DMEM while idle (20_memory.md R82, R84, R85): the step of each, the bytes it leaves, and
the reads after it.
-/

namespace Sys2Proof.Machine

/-! ### A word and its bytes in memory order -/

/-- Byte `j` of a word in memory order is its bits `31-8j : 24-8j` (R11). -/
theorem columnBytes_bytes32_getD (v : Word) {j : Nat} (h : j < 4) :
    (columnBytes (bytes32 v)).getD j 0 = v.extractLsb' (24 - 8 * j) 8 := by
  interval_cases j <;> rfl

theorem be32_bytes32 (v : Word) : be32 (bytes32 v) = v := by
  show v.extractLsb' 24 8 ++ v.extractLsb' 16 8 ++ v.extractLsb' 8 8 ++ v.extractLsb' 0 8 = v
  iterate 3 rw [BitVec.extractLsb'_append_extractLsb'_eq_extractLsb' (len₁ := 8) rfl]
  exact BitVec.extractLsb'_eq_self

theorem columnOf_columnBytes (c : Column) : columnOf (fun j => (columnBytes c).getD j 0) = c := rfl

theorem columnOf_congr {f g : Nat → Byte} (h : ∀ j, j < 4 → f j = g j) : columnOf f = columnOf g := by
  rw [columnOf, columnOf, h 0 (by decide), h 1 (by decide), h 2 (by decide), h 3 (by decide)]

/-! ### What a write leaves in DMEM -/

/-- Offsets at or beyond `DMEM_BYTES` ignore writes (R85). -/
theorem writeByte_dmem_of_le (s : State) {a : Nat} (b : Byte) (h : s.cfg.dmemBytes ≤ a) :
    (s.writeByte a b).dmem = s.dmem := by
  rw [State.writeByte_dmem, Memory.store, if_neg (by omega), Memory.store]

theorem sameOutside_writeByte (s : State) (a : Nat) (b : Byte) : SameOutside a 1 s (s.writeByte a b) := fun x hx => by
  rw [State.readByte_writeByte, if_neg (by omega)]

theorem sameOutside_writeColumn (s : State) (a : Nat) (c : Column) : SameOutside a 4 s (s.writeColumn a c) :=
  fun x hx => by rw [State.readByte_writeColumn, if_neg (by omega)]

/-- Byte `j` of a column, read where the column was written. -/
theorem readByte_writeColumn_self (s : State) {a j : Nat} (c : Column) (hj : j < 4) (h : a + 4 ≤ s.cfg.dmemBytes) :
    (s.writeColumn a c).readByte (a + j) = (columnBytes c).getD j 0 := by
  rw [State.readByte_writeColumn, if_pos (by omega), Nat.add_sub_cancel_left]

/-- Byte `j` of a word, read where the word was written (R85). -/
theorem readByte_writeColumn_bytes32 (s : State) {a j : Nat} (v : Word) (hj : j < 4) (h : a + 4 ≤ s.cfg.dmemBytes) :
    (s.writeColumn a (bytes32 v)).readByte (a + j) = v.extractLsb' (24 - 8 * j) 8 :=
  (readByte_writeColumn_self s _ hj h).trans (columnBytes_bytes32_getD v hj)

/-- A column read back where it was written. -/
theorem readColumn_writeColumn_self (s : State) {a : Nat} (c : Column) (h : a + 4 ≤ s.cfg.dmemBytes) :
    (s.writeColumn a c).readColumn a = c :=
  (columnOf_congr fun _ hj => readByte_writeColumn_self s c hj h).trans (columnOf_columnBytes c)

/-- An aligned word lies wholly inside DMEM or wholly outside it, since `DMEM_BYTES` is a multiple of 16 (R8). -/
theorem word_le_dmemBytes {c : Config} {a : Nat} (hc : c.legal) (h4 : a % 4 = 0) (ha : a < c.dmemBytes) :
    a + 4 ≤ c.dmemBytes := by
  obtain ⟨h16, -⟩ := hc
  omega

/-! ### The steps -/

/-- An 8-bit write in the DMEM window, out of reset. -/
theorem step_write8 {s : State} {off : Nat} {v : Word} {rest : List Event} (hr : s.inReset = false)
    (ho : off < 0x20000) (hd : 0x10000 ≤ off) (he : s.events = .host (.write 8 (s.cfg.base + off) v) :: rest) :
    step s = .next (({ s with events := rest, resp := .wrote } : State).write8 off (v.extractLsb' 0 8)) := by
  rw [step, nextAction_host he, State.hostAccess, Access.addr]
  rw [show ({ s with events := rest } : State).cfg = s.cfg from rfl, windowOffset_base _ ho]
  simp [hr, State.accessAt, shapeAccepted, hd, State.respond]

/-- An 8-bit write to DMEM while idle. -/
theorem step_write8_idle {s : State} {a : Nat} {v : Word} {rest : List Event} (hr : s.inReset = false)
    (hp : s.phase = .idle) (ha : a < 0x10000) (he : s.events = .host (.write 8 (s.cfg.base + (0x10000 + a)) v) :: rest) :
    step s = .next (({ s with events := rest, resp := .wrote } : State).writeByte a (v.extractLsb' 0 8)) := by
  have hb : ({ s with events := rest, resp := .wrote } : State).busy = false := State.busy_of_idle hp
  rw [step_write8 hr (by omega) (by omega) he, State.write8, hb, if_neg (by decide), Nat.add_sub_cancel_left]

/-- A 32-bit write inside DMEM while idle. -/
theorem step_write32_dmem_of_lt {s : State} {a : Nat} {v : Word} {rest : List Event} (hr : s.inReset = false)
    (hp : s.phase = .idle) (h4 : a % 4 = 0) (ha : a < 0x10000) (hin : a < s.cfg.dmemBytes)
    (he : s.events = .host (.write 32 (s.cfg.base + (0x10000 + a)) v) :: rest) :
    step s = .next (({ s with events := rest, resp := .wrote } : State).writeColumn a (bytes32 v)) :=
  (step_write32_idle (.dmem a) hr hp (by omega) (by omega) (portOf_dmem a) (by simp) (by simp) he).trans
    (congrArg Host.Outcome.next (if_pos hin))

/-- A 32-bit write at or beyond `DMEM_BYTES` while idle. -/
theorem step_write32_dmem_of_le {s : State} {a : Nat} {v : Word} {rest : List Event} (hr : s.inReset = false)
    (hp : s.phase = .idle) (h4 : a % 4 = 0) (ha : a < 0x10000) (hout : s.cfg.dmemBytes ≤ a)
    (he : s.events = .host (.write 32 (s.cfg.base + (0x10000 + a)) v) :: rest) :
    step s = .next { s with events := rest, resp := .wrote } :=
  (step_write32_idle (.dmem a) hr hp (by omega) (by omega) (portOf_dmem a) (by simp) (by simp) he).trans
    (congrArg Host.Outcome.next (if_neg (Nat.not_lt.mpr hout)))

/-- Settles O43: the step is `State.writeByte`, whose effect on each byte is known. -/
theorem dmemByteWrite : Obligations.DmemByteWrite := by
  intro s a v rest hr hp ha he
  refine ⟨_, step_write8_idle hr hp ha he, rfl, fun h => ?_, fun h => writeByte_dmem_of_le _ _ h,
    sameOutside_writeByte { s with events := rest, resp := .wrote } a _⟩
  rw [State.readByte_writeByte, if_pos ⟨rfl, h⟩]

/-- A byte of a word in DMEM, read by the host from the state that the word's write leaves. -/
theorem step_read8_writeColumn {s : State} {a j : Nat} {v : Word} {more : List Event} (hr : s.inReset = false)
    (hp : s.phase = .idle) (ha : a + 4 ≤ s.cfg.dmemBytes) (hw : a + j < 0x10000) (hj : j < 4)
    (he : s.events = .host (.read 8 (s.cfg.base + (0x10000 + a + j))) :: more) :
    ∃ u, step (s.writeColumn a (bytes32 v)) = .next u ∧
      u.resp = .read ((v.extractLsb' (24 - 8 * j) 8).setWidth 32) := by
  rw [Nat.add_assoc 0x10000] at he
  refine ⟨_, step_read8_idle (s := s.writeColumn a (bytes32 v)) hr hp hw he, ?_⟩
  rw [State.writeColumn_cfg, if_pos (by omega), readByte_writeColumn_bytes32 s v hj ha]

/-- A word in DMEM, read by the host from the state that its write leaves. -/
theorem step_read32_writeColumn {s : State} {a : Nat} {v : Word} {more : List Event} (hr : s.inReset = false)
    (hp : s.phase = .idle) (ha : a + 4 ≤ s.cfg.dmemBytes) (hw : a < 0x10000) (h4 : a % 4 = 0)
    (he : s.events = .host (.read 32 (s.cfg.base + (0x10000 + a))) :: more) :
    ∃ u, step (s.writeColumn a (bytes32 v)) = .next u ∧ u.resp = .read v := by
  refine ⟨_, step_read32_value (s := s.writeColumn a (bytes32 v)) (.dmem a) hr (by omega) (by omega) (portOf_dmem a)
    (.inl (State.busy_of_idle hp)) he, ?_⟩
  rw [State.portValue, State.writeColumn_cfg, if_pos (by omega), readColumn_writeColumn_self s _ ha, be32_bytes32]

/-- Settles O44: inside DMEM the step is `State.writeColumn` of the word's bytes, beyond it nothing is written. -/
theorem dmemWordWriteReadsBack : Obligations.DmemWordWriteReadsBack := by
  intro s a v rest hr hp hc h4 ha he
  rcases Nat.lt_or_ge a s.cfg.dmemBytes with hin | hout
  · have hword : a + 4 ≤ s.cfg.dmemBytes := word_le_dmemBytes hc h4 hin
    refine ⟨_, step_write32_dmem_of_lt hr hp h4 ha hin he, rfl,
      sameOutside_writeColumn { s with events := rest, resp := .wrote } a _, fun hout => absurd hin (Nat.not_lt.mpr hout),
      fun _ => ⟨fun j hj => ?_, fun j more hj hrest => ?_, fun more hrest => ?_⟩⟩
    · exact readByte_writeColumn_bytes32 _ v hj hword
    · exact step_read8_writeColumn hr hp hword (by omega) hj hrest
    · exact step_read32_writeColumn hr hp hword ha h4 hrest
  · exact ⟨_, step_write32_dmem_of_le hr hp h4 ha hout he, rfl, fun _ _ => rfl, fun _ => rfl,
      fun hin => absurd hin (Nat.not_lt.mpr hout)⟩

end Sys2Proof.Machine
end

section
/-!
PROOFS. Command words (30_encoding.md R110, R112, R113): the word of each command, and the words that are none.
-/

namespace Sys2Proof

/-! ### The two fields of a word -/

theorem opcodeInstr_eq_some_iff (op : BitVec 8) (i : Instr) : opcodeInstr op = some i ↔ op = opcode i := by
  constructor
  · unfold opcodeInstr
    split_ifs <;> rintro ⟨⟩ <;> assumption
  · rintro rfl; cases i <;> rfl

/-- A word decodes to a command exactly when `RSV` is 0 and `OP` is the command's opcode (R110, R112). -/
theorem decode_eq_ok_iff (w : Word) (i : Instr) :
    decode w = .ok i ↔ w.extractLsb' 8 24 = 0 ∧ w.extractLsb' 0 8 = opcode i := by
  rw [← opcodeInstr_eq_some_iff, decode]
  split
  · next hz =>
    have hz : w.extractLsb' 8 24 = 0 := beq_iff_eq.mp hz
    split
    · next j hj =>
      have hj : opcodeInstr (w.extractLsb' 0 8) = some j := hj
      simp [hz, hj]
    · next hn =>
      have hn : opcodeInstr (w.extractLsb' 0 8) = none := hn
      simp [hn]
  · next hz =>
    have hz : w.extractLsb' 8 24 ≠ 0 := fun h => hz (beq_iff_eq.mpr h)
    exact ⟨nofun, fun ⟨hrsv, _⟩ => absurd hrsv hz⟩

/-- A word is its two fields (R110). -/
theorem rsv_append_op (w : Word) : w.extractLsb' 8 24 ++ w.extractLsb' 0 8 = w :=
  (BitVec.extractLsb'_append_extractLsb'_eq_extractLsb' rfl).trans BitVec.extractLsb'_eq_self

theorem eq_encode_iff (w : Word) (i : Instr) :
    w = encode i ↔ w.extractLsb' 8 24 = 0 ∧ w.extractLsb' 0 8 = opcode i := by
  constructor
  · rintro rfl
    exact ⟨BitVec.extractLsb'_append_eq_left, BitVec.extractLsb'_append_eq_right⟩
  · rintro ⟨hrsv, hop⟩
    rw [← rsv_append_op w, hrsv, hop, encode]

theorem decode_eq_ok_iff_eq_encode (w : Word) (i : Instr) : decode w = .ok i ↔ w = encode i :=
  (decode_eq_ok_iff w i).trans (eq_encode_iff w i).symm

/-- Settles O4: `decode` asks of the two fields of a word what `encode` puts there. -/
theorem decodeSelectsExactWord : Obligations.DecodeSelectsExactWord :=
  ⟨decode_eq_ok_iff_eq_encode, rfl, rfl, rfl, rfl, rfl, rfl, rfl, rfl, rfl⟩

theorem decode_encode (i : Instr) : decode (encode i) = .ok i :=
  (decode_eq_ok_iff_eq_encode _ i).mpr rfl

/-- Settles O3: the nine words are those of `encode`; the neighbours are evaluated. -/
theorem commandWordsDecode : Obligations.CommandWordsDecode :=
  ⟨⟨decode_encode .kse, decode_encode .ksd, decode_encode .encb, decode_encode .decb, decode_encode .cbce,
    decode_encode .cbcd, decode_encode .ctr, decode_encode .igee, decode_encode .iged⟩, by decide⟩

/-! ### Illegal words -/

theorem opcode_mem_assignedOpcodes (i : Instr) : opcode i ∈ assignedOpcodes := by
  cases i <;> decide

/-- A word with a reserved bit set or an unassigned opcode is refused (R113). -/
theorem decode_eq_error_of_illegal {w : Word}
    (h : w.extractLsb' 8 24 ≠ 0 ∨ w.extractLsb' 0 8 ∉ assignedOpcodes) : ∃ e, decode w = .error e := by
  cases hd : decode w with
  | error e => exact ⟨e, rfl⟩
  | ok i =>
    obtain ⟨hrsv, hop⟩ := (decode_eq_ok_iff w i).mp hd
    rcases h with h | h
    · exact absurd hrsv h
    · exact absurd (hop ▸ opcode_mem_assignedOpcodes i) h

end Sys2Proof
end

section
/-!
PROOFS. A command word written to `CMD` while idle (30_encoding.md R114, R115; 60_exceptions.md R264, R272): the step of each kind of
word, what acceptance latches, and what `STATUS` shows after it.
-/

namespace Sys2Proof.Machine

/-! ### The step of a write to `CMD` -/

theorem step_of_nextAction_stay {s t : State} (h : s.nextAction = .stay t) : step s = .next t := by
  rw [step, h]

theorem step_of_nextAction_run {s t : State} {i : Instr} (h : s.nextAction = .run i t) : step s = exec i t := by
  rw [step, h]

section
variable {s : State} {v : Word} {rest : List Event} (hr : s.inReset = false) (hp : s.phase = .idle)
  (he : s.events = .host (.write 32 (s.cfg.base + 0x00C) v) :: rest)
include hr hp he

/-- A word written to `CMD` while idle is submitted (R114). -/
theorem nextAction_cmd : s.nextAction = ({ s with events := rest, resp := .wrote } : State).submit v := by
  have hb : ({ s with events := rest, resp := .wrote } : State).busy = false := State.busy_of_idle hp
  rw [nextAction_write32 hr (by decide) rfl he, State.write32, if_neg (by decide), hb, if_neg (by decide),
    if_pos (by decide)]

theorem step_cmd_of_decode_ok {i : Instr} (hd : decode v = .ok i) :
    step s = exec i { s with events := rest, resp := .wrote } :=
  step_of_nextAction_run (by rw [nextAction_cmd hr hp he, State.submit, hd])

theorem step_cmd_of_decode_error {e : DecodeError} (hd : decode v = .error e) :
    step s = .next { s with events := rest, resp := .wrote, err := .illegalCmd, done := true } :=
  step_of_nextAction_stay (by rw [nextAction_cmd hr hp he, State.submit, hd]; rfl)

end

/-- Settles O1: the write reaches `submit`, which hands the decoded command to `exec`. -/
theorem stepRunsSubmittedCommand : Obligations.StepRunsSubmittedCommand :=
  fun _ _ _ _ hr hp he hd => step_cmd_of_decode_ok hr hp he hd

/-- Settles O5: an illegal word does not decode, and `submit` completes it with `ILLEGAL_CMD`. -/
theorem illegalWordFailsAtOnce : Obligations.IllegalWordFailsAtOnce := by
  intro s v rest hr hp he hill
  obtain ⟨e, hd⟩ := decode_eq_error_of_illegal hill
  exact step_cmd_of_decode_error hr hp he hd

/-! ### What acceptance latches -/

/-- Byte `4k + j` of eight registers in memory order is bits `31-8j : 24-8j` of register `k` (R41, R42). -/
theorem registerBytes_getElem? (r : Vector Word 8) (k : Fin 8) {j : Nat} (hj : j < 4) :
    (blockBytes (registerBytes r).lo ++ blockBytes (registerBytes r).hi)[4 * k.val + j]? =
      some (r[k].extractLsb' (24 - 8 * j) 8) := by
  fin_cases k <;> interval_cases j <;> rfl

/-- `N_L` (R115). -/
theorem ofNat_byteCount (i : Instr) (len : Word) :
    BitVec.ofNat 32 (byteCount i len.toNat) =
      if i = .encb ∨ i = .decb then 16 else if i = .kse ∨ i = .ksd then 0 else len := by
  cases i <;> simp [byteCount]

theorem State.statusWord_busy_iff (s : State) : s.statusWord.getLsbD 0 = true ↔ s.phase = .run :=
  (statusWordFields.1 s).1

theorem State.statusWord_done (s : State) : s.statusWord.getLsbD 1 = s.done :=
  (statusWordFields.1 s).2.1

/-- Settles O6: acceptance of a valid command is `Start`, whose latches are the operands. -/
theorem acceptedCommandLatchesAndRuns : Obligations.AcceptedCommandLatchesAndRuns := by
  intro i s hp hv
  refine ⟨_, exec_of_idle hp, ?_⟩
  rw [accept_of_valid hv]
  refine ⟨(State.statusWord_busy_iff _).mpr rfl, ?_,
    fun k j hj => ⟨registerBytes_getElem? s.key k hj, registerBytes_getElem? s.iv k hj⟩⟩
  rw [← ofNat_byteCount]; rfl

/-! ### `STATUS` after a write to `CMD` -/

theorem ErrCode.code_ne_zero {e : ErrCode} (h : e ≠ .ok) : e.code ≠ 0 := by
  cases e with
  | ok => exact absurd rfl h
  | _ => decide

/-- A running command, or a failed validation with its code (R306). -/
def RunsOrFailed (t : State) : Prop :=
  (t.phase = .run ∧ t.done = false) ∨ (t.phase = .idle ∧ t.done = true ∧ t.err ≠ .ok)

theorem runsOrFailed_accept (i : Instr) {s : State} (hp : s.phase = .idle) : RunsOrFailed (s.accept i) := by
  rcases accept_cases i s with ⟨-, e⟩ | ⟨hbad, e⟩
  · rw [e]; exact .inl ⟨rfl, rfl⟩
  · rw [e]; exact .inr ⟨hp, rfl, hbad⟩

/-- How `STATUS` shows the two. -/
theorem RunsOrFailed.statusWord {t : State} (h : RunsOrFailed t) :
    (t.statusWord.getLsbD 0 = true ∧ t.statusWord.getLsbD 1 = false) ∨
      (t.statusWord.getLsbD 0 = false ∧ t.statusWord.getLsbD 1 = true ∧ t.statusWord.extractLsb' 4 4 ≠ 0) := by
  rw [t.statusWord_done, t.statusWord_err]
  rcases h with ⟨hp, hd⟩ | ⟨hp, hd, he⟩
  · exact .inl ⟨t.statusWord_busy_iff.mpr hp, hd⟩
  · refine .inr ⟨?_, hd, ErrCode.code_ne_zero he⟩
    rw [Bool.eq_false_iff, Ne, t.statusWord_busy_iff, hp]; decide

/-- Settles O13: a legal word is accepted and runs or fails; an illegal one fails. -/
theorem statusAfterCommandWrite : Obligations.StatusAfterCommandWrite := by
  intro s v rest hr hp he
  cases hd : decode v with
  | ok i =>
    have hs := (step_cmd_of_decode_ok hr hp he hd).trans (exec_of_idle hp)
    exact ⟨_, hs, (runsOrFailed_accept i (s := { s with events := rest, resp := .wrote }) hp).statusWord⟩
  | error e =>
    have hf : RunsOrFailed { s with events := rest, resp := .wrote, err := .illegalCmd, done := true } :=
      .inr ⟨hp, rfl, ErrCode.noConfusion⟩
    exact ⟨_, step_cmd_of_decode_error hr hp he hd, hf.statusWord⟩

end Sys2Proof.Machine
end

section
/-!
PROOFS. From acceptance to completion (30_encoding.md R114 to R116): a valid command completes without error, no step of a sound state
stops, and a running command completes when its inputs are used up at the latest.
-/

namespace Sys2Proof.Machine

/-! ### The completion transition -/

/-- A command's completion: idle, `DONE` set, `ERR` as it was (R116). -/
theorem completes_commandBody (i : Instr) (s : State) : Completes s (commandBody i s).complete := by
  rw [commandBody_frame]; exact ⟨rfl, rfl, rfl⟩

theorem keepsControl_commandBody (i : Instr) (s : State) : KeepsControl s (commandBody i s).complete := by
  rw [commandBody_frame]; exact ⟨rfl, rfl, rfl, rfl, rfl, rfl, rfl, rfl, rfl, rfl⟩

/-- Settles O19: acceptance latches validated operands, so the completion transition takes place. -/
theorem validCommandRunsToCompletion : Obligations.ValidCommandRunsToCompletion := by
  intro i s hp hv
  have hacc := (exec_of_idle (i := i) hp).trans (congrArg Host.Outcome.next (accept_of_valid hv))
  have hrun := exec_of_run (State.start_phase _ _ _) (latchValid_start hv)
  obtain ⟨hidle, hdone, herr⟩ := completes_commandBody i (s.clearCompletion.start i (byteCount i s.len.toNat))
  exact ⟨_, ⟨_, hacc, rfl, hrun⟩, hidle, hdone, herr, keepsControl_commandBody i _⟩

theorem nextAction_of_completesNext {s : State} (h : s.completesNext) :
    s.nextAction = .run s.latch.op s.popEvent := by
  obtain ⟨hp, hev⟩ := h
  have hturn : s.popEvent.engineTurn = .run s.latch.op s.popEvent := by
    rw [State.engineTurn, State.popEvent_phase, hp, State.popEvent_latch]
  rw [← hturn, State.nextAction]
  cases hs : s.events with
  | nil =>
    have hpop : s.popEvent = s := by rw [State.popEvent, hs, List.tail_nil, ← hs]
    rw [hpop]
  | cons e rest =>
    have he : e = .engine := by simpa [hs] using hev
    rw [he]

/-- Settles O2: the engine's turn runs the latched command. -/
theorem stepCompletesRunningCommand : Obligations.StepCompletesRunningCommand :=
  fun _ h => step_of_nextAction_run (nextAction_of_completesNext h)

/-! ### Sound states -/

theorem latchValid_of_inv {s : State} (h : s.Inv) (hp : s.phase = .run) : s.latchValid s.latch.op = true := by
  obtain ⟨-, -, hrun, -⟩ := h
  obtain ⟨-, -, -, -, hl, -⟩ := hrun hp
  exact hl

theorem err_of_inv {s : State} (h : s.Inv) (hp : s.phase = .run) : s.err = .ok := by
  obtain ⟨-, -, hrun, -⟩ := h
  obtain ⟨-, -, herr, -⟩ := hrun hp
  exact herr

/-- In a sound state the completion transition takes place: its operands have been validated. -/
theorem step_of_inv_completesNext {s : State} (h : s.Inv) (hc : s.completesNext) :
    step s = .next (commandBody s.latch.op s.popEvent).complete :=
  (step_of_nextAction_run (nextAction_of_completesNext hc)).trans (exec_of_run hc.1 (latchValid_of_inv h hc.1))

/-- Settles O27: a completion finds validated operands, and the only other transition of a command, its acceptance, never stops. -/
theorem soundStateNeverStops : Obligations.SoundStateNeverStops := by
  intro s h
  by_cases hc : s.completesNext
  · exact ⟨_, step_of_inv_completesNext h hc⟩
  · cases hn : s.nextAction with
    | stay t => exact ⟨t, step_of_nextAction_stay hn⟩
    | run i t => exact ⟨_, (step_of_nextAction_run hn).trans (exec_of_idle (phase_idle_of_nextAction_run hc hn))⟩

/-! ### A running command keeps running until it completes -/

/-- No host access ends a running command or touches the inputs still to come (R116, R276). -/
theorem hostAccess_keepsRunning {s t : State} {a : Access} (hp : s.phase = .run) (h : s.hostAccess a = .stay t) :
    t.phase = .run ∧ t.events = s.events := by
  have he := hostAccess_effect s a
  generalize s.hostAccess a = act at he h
  cases he with
  | answer _ _ hs => cases h; rw [AnswerOnly] at hs; rw [hs]; exact ⟨hp, rfl⟩
  | status | ignored => cases h; exact ⟨hp, rfl⟩
  | command _ _ hi | port _ _ _ hi | byte _ _ _ hi => rw [hp] at hi; cases hi

/-- A step that neither completes the running command nor resets leaves it running and takes one input. -/
theorem step_keepsRunning {s t : State} (h : step s = .next t) (hp : s.phase = .run) (hc : ¬ s.completesNext)
    (hr : s.events.head? ≠ some .assertReset) : t.phase = .run ∧ ∃ e, s.events = e :: t.events := by
  rcases step_cases h with
    ⟨-, hi, -⟩ | ⟨hev, -⟩ | ⟨a, rest, hev, ⟨-, -, hi, -⟩ | hs⟩ | ⟨hev, -⟩ | ⟨hev, rfl⟩
  · rw [hp] at hi; cases hi
  · exact absurd ⟨hp, hev⟩ hc
  · rw [hp] at hi; cases hi
  · obtain ⟨ht, he⟩ := hostAccess_keepsRunning (s := s.popEvent) hp hs
    exact ⟨ht, _, by rw [he, State.popEvent_events, hev, List.tail_cons]⟩
  · exact absurd hev hr
  · exact ⟨hp, _, (List.cons_head?_tail hev).symm⟩

theorem run_succ_of_step (M : Host.Core) {s t : M.State} (h : M.step s = .next t) (n : Nat) :
    M.run (n + 1) s = M.run n t := by
  rw [Host.Core.run, h]

theorem run_of_completesNext {s : State} (h : s.Inv) (hc : s.completesNext) :
    ∃ t, core.run 1 s = .next t ∧ t.phase = .idle ∧ t.done = true ∧ t.err = .ok := by
  obtain ⟨hidle, hdone, herr⟩ := completes_commandBody s.latch.op s.popEvent
  exact ⟨_, run_succ_of_step core (step_of_inv_completesNext h hc) 0, hidle, hdone, herr.trans (err_of_inv h hc.1)⟩

/-- Settles O29, by induction on the inputs: a step completes the command, or takes one input and leaves the command running in a
sound state; with no input left the step completes it. -/
theorem runningCommandCompletes : Obligations.RunningCommandCompletes := by
  intro s h hp hr
  generalize hev : s.events = inputs at hr ⊢
  induction inputs generalizing s with
  | nil =>
    obtain ⟨t, ht⟩ := run_of_completesNext h ⟨hp, .inl hev⟩
    exact ⟨1, t, le_rfl, ht⟩
  | cons e rest ih =>
    obtain ⟨he, hrest⟩ : .assertReset ≠ e ∧ .assertReset ∉ rest := by simpa using hr
    by_cases hc : s.completesNext
    · obtain ⟨t, ht⟩ := run_of_completesNext h hc
      exact ⟨1, t, by omega, ht⟩
    · obtain ⟨t, hs⟩ := soundStateNeverStops s h
      obtain ⟨htp, e', hte⟩ := step_keepsRunning hs hp hc (by simpa [hev] using Ne.symm he)
      obtain ⟨-, hte⟩ : e = e' ∧ rest = t.events := by simpa [hev] using hte
      obtain ⟨n, u, hn, hu, hend⟩ := ih t (stepKeepsInvariant s t h hs) htp hte.symm hrest
      exact ⟨n + 1, u, by rw [List.length_cons]; omega, (run_succ_of_step core hs n).trans hu, hend⟩

end Sys2Proof.Machine
end

section
/-!
PROOFS. Arithmetic of GF(2^8) (40_cipher_core.md R140, R141): the field product is bilinear and associative, so that `inv` is
unique; the S-box tables follow the formula and undo each other (R142, R143).
-/

namespace Sys2Proof.Machine

/-! ### The field product is bilinear -/

theorem ite_xor_zero (p q : Bool) (a : Byte) :
    (if p ^^ q then a else 0) = (if p then a else 0) ^^^ (if q then a else 0) := by
  cases p <;> cases q <;> simp

theorem xtime_xor (a b : Byte) : xtime (a ^^^ b) = xtime a ^^^ xtime b := by
  rw [xtime, BitVec.getLsbD_xor, ite_xor_zero, BitVec.shiftLeft_xor_distrib, xtime, xtime]; ac_rfl

theorem xtime_ite_zero (p : Bool) (a : Byte) : xtime (if p then a else 0) = if p then xtime a else 0 := by
  rw [apply_ite xtime, show xtime 0 = 0 by decide]

theorem xtimeN_xor (n : Nat) (a b : Byte) : xtimeN n (a ^^^ b) = xtimeN n a ^^^ xtimeN n b := by
  induction n with
  | zero => rfl
  | succ n ih => rw [xtimeN, ih, xtime_xor, xtimeN, xtimeN]

theorem gfTerm_xor_left (a b c : Byte) (i : Nat) : gfTerm (a ^^^ b) c i = gfTerm a c i ^^^ gfTerm b c i := by
  cases h : c.getLsbD i <;> simp [gfTerm, h, xtimeN_xor]

theorem gfTerm_xor_right (a b c : Byte) (i : Nat) : gfTerm a (b ^^^ c) i = gfTerm a b i ^^^ gfTerm a c i := by
  rw [gfTerm, BitVec.getLsbD_xor, ite_xor_zero, gfTerm, gfTerm]

theorem gfMul_xor_left (a b c : Byte) : gfMul (a ^^^ b) c = gfMul a c ^^^ gfMul b c := by
  simp only [gfMul, gfTerm_xor_left]; ac_rfl

theorem gfMul_xor_right (a b c : Byte) : gfMul a (b ^^^ c) = gfMul a b ^^^ gfMul a c := by
  simp only [gfMul, gfTerm_xor_right]; ac_rfl

theorem gfMul_zero_left (b : Byte) : gfMul 0 b = 0 := by
  simpa using gfMul_xor_left 0 0 b

theorem gfMul_zero_right (a : Byte) : gfMul a 0 = 0 := by
  simpa using gfMul_xor_right a 0 0

theorem gfMul_one_left (b : Byte) : gfMul 1 b = b := by
  revert b; decide

theorem gfMul_one_right (a : Byte) : gfMul a 1 = a := by
  simp [gfMul, gfTerm, xtimeN]

/-! ### The field product is associative -/

/-- The reduction by 0x11B: `{02}^8` is 0x1B (R140). -/
theorem gfMul_0x1B_right (a : Byte) : gfMul a 0x1B = xtimeN 8 a := by
  revert a; decide

/-- Each bit of a shifted byte selects the next power of `xtime`. -/
theorem gfTerm_shiftLeft_one (a b : Byte) {i : Nat} (h : i + 1 < 8) :
    gfTerm a (b <<< 1) (i + 1) = xtime (gfTerm a b i) := by
  rw [gfTerm, gfTerm, xtime_ite_zero, BitVec.getLsbD_shiftLeft]; simp [h, xtimeN]

theorem gfMul_shiftLeft_one (a b : Byte) :
    gfMul a (b <<< 1) = xtime (gfMul a b) ^^^ (if b.getLsbD 7 then xtimeN 8 a else 0) := by
  have h0 : gfTerm a (b <<< 1) 0 = 0 := by simp [gfTerm]
  have h7 : xtime (gfTerm a b 7) = if b.getLsbD 7 then xtimeN 8 a else 0 := by rw [gfTerm, xtime_ite_zero]; rfl
  rw [gfMul, h0]
  iterate 7 rw [gfTerm_shiftLeft_one a b (by decide)]
  rw [gfMul]
  simp only [xtime_xor, h7, BitVec.xor_assoc, BitVec.xor_self, BitVec.xor_zero, BitVec.zero_xor, BitVec.ofNat_eq_ofNat]

theorem gfMul_xtime_right (a b : Byte) : gfMul a (xtime b) = xtime (gfMul a b) := by
  rw [xtime, gfMul_xor_right, gfMul_shiftLeft_one, apply_ite (gfMul a), gfMul_0x1B_right, gfMul_zero_right,
    BitVec.xor_assoc, BitVec.xor_self, BitVec.xor_zero]

theorem gfMul_xtimeN_right (a b : Byte) (n : Nat) : gfMul a (xtimeN n b) = xtimeN n (gfMul a b) := by
  induction n with
  | zero => rfl
  | succ n ih => rw [xtimeN, gfMul_xtime_right, ih, xtimeN]

theorem gfMul_gfTerm (a b c : Byte) (i : Nat) : gfMul a (gfTerm b c i) = gfTerm (gfMul a b) c i := by
  rw [gfTerm, apply_ite (gfMul a), gfMul_xtimeN_right, gfMul_zero_right, gfTerm]

theorem gfMul_assoc (a b c : Byte) : gfMul (gfMul a b) c = gfMul a (gfMul b c) := by
  rw [gfMul, gfMul.eq_1 b c]
  simp only [gfMul_xor_right, gfMul_gfTerm]

/-! ### The inverse of R141 -/

/-- `inv` finds the two-sided inverse of a byte that has one: inverses are unique. -/
theorem gfInv_eq_of_gfMul_eq_one {a b : Byte} (h : gfMul a b = 1) (h' : gfMul b a = 1) : gfInv a = b := by
  have huniq (x : Byte) (hx : gfMul a x = 1) : x = b := by
    rw [← gfMul_one_left x, ← h', gfMul_assoc, hx, gfMul_one_right]
  have hmem : b ∈ (List.range 256).map (BitVec.ofNat 8) :=
    List.mem_map.mpr ⟨b.toNat, List.mem_range.mpr b.isLt, by simp⟩
  rw [gfInv]
  cases hf : ((List.range 256).map (BitVec.ofNat 8)).find? fun x => gfMul a x == 1 with
  | none => exact absurd (beq_iff_eq.mpr h) (List.find?_eq_none.mp hf b hmem)
  | some x => exact huniq x (beq_iff_eq.mp (List.find?_some hf :))

theorem gfInv_zero : gfInv 0 = 0 := by
  rw [gfInv, List.find?_eq_none.mpr, Option.getD_none]
  intro b _
  rw [gfMul_zero_left]; decide

/-- The byte whose affine image under R142 is `SBOX(a)`. -/
def sboxPreimage (a : Byte) : Byte :=
  let b := sbox a ^^^ 0x63
  b.rotateLeft 1 ^^^ b.rotateLeft 3 ^^^ b.rotateLeft 6

theorem gfMul_sboxPreimage {a : Byte} (h : a ≠ 0) : gfMul a (sboxPreimage a) = 1 ∧ gfMul (sboxPreimage a) a = 1 := by
  revert a; decide

/-- The table of R142 is built on the inverses of R141. -/
theorem gfInv_eq_sboxPreimage (a : Byte) : gfInv a = sboxPreimage a := by
  by_cases h : a = 0
  · rw [h, gfInv_zero]; decide
  · obtain ⟨hr, hl⟩ := gfMul_sboxPreimage h
    exact gfInv_eq_of_gfMul_eq_one hr hl

/-! ### The S-boxes -/

theorem sbox_eq_sboxFormula (a : Byte) : sbox a = sboxFormula a := by
  rw [sboxFormula, gfInv_eq_sboxPreimage]; revert a; decide

@[simp] theorem invSbox_sbox (a : Byte) : invSbox (sbox a) = a := by
  revert a; decide

@[simp] theorem sbox_invSbox (a : Byte) : sbox (invSbox a) = a := by
  revert a; decide

/-- Settles O49: the table's bytes are the affine images of the field inverses. -/
theorem sboxTablesAgree : Obligations.SboxTablesAgree := fun a =>
  ⟨sbox_eq_sboxFormula a, invSbox_sbox a, sbox_invSbox a, fun h => by
    rw [gfInv_eq_sboxPreimage]; exact (gfMul_sboxPreimage h).1⟩

end Sys2Proof.Machine
end

section
/-!
PROOFS. The round transforms and their inverses (40_cipher_core.md R146 to R149).
-/

namespace Sys2Proof.Machine

/-! ### Columns as polynomials over the field -/

/-- The product of two columns as polynomials modulo `x^4 + 1`: coefficient `i` is the sum of `m[i-j] • a[j]`. `MixColumns` and
`InvMixColumns` are products with a fixed column (R148, R149). -/
def mulColumn (m a : Column) : Column :=
  { r0 := gfMul m.r0 a.r0 ^^^ gfMul m.r3 a.r1 ^^^ gfMul m.r2 a.r2 ^^^ gfMul m.r1 a.r3,
    r1 := gfMul m.r1 a.r0 ^^^ gfMul m.r0 a.r1 ^^^ gfMul m.r3 a.r2 ^^^ gfMul m.r2 a.r3,
    r2 := gfMul m.r2 a.r0 ^^^ gfMul m.r1 a.r1 ^^^ gfMul m.r0 a.r2 ^^^ gfMul m.r3 a.r3,
    r3 := gfMul m.r3 a.r0 ^^^ gfMul m.r2 a.r1 ^^^ gfMul m.r1 a.r2 ^^^ gfMul m.r0 a.r3 }

theorem mixColumn_eq_mulColumn (a : Column) : mixColumn a = mulColumn ⟨0x02, 0x01, 0x01, 0x03⟩ a := by
  simp only [mixColumn, mulColumn, gfMul_one_left]

theorem invMixColumn_eq_mulColumn (a : Column) : invMixColumn a = mulColumn ⟨0x0E, 0x09, 0x0D, 0x0B⟩ a := rfl

theorem mulColumn_one_left (a : Column) : mulColumn ⟨1, 0, 0, 0⟩ a = a := by
  simp only [mulColumn, gfMul_one_left, gfMul_zero_left]; simp

theorem mulColumn_assoc (m n a : Column) : mulColumn (mulColumn m n) a = mulColumn m (mulColumn n a) := by
  ext1 <;> simp only [mulColumn, gfMul_xor_left, gfMul_xor_right, gfMul_assoc] <;> ac_rfl

theorem mulColumn_xorColumn (m a b : Column) :
    mulColumn m (xorColumn a b) = xorColumn (mulColumn m a) (mulColumn m b) := by
  ext1 <;> simp only [mulColumn, xorColumn, gfMul_xor_right] <;> ac_rfl

@[simp] theorem invMixColumn_mixColumn (a : Column) : invMixColumn (mixColumn a) = a := by
  have h : mulColumn ⟨0x0E, 0x09, 0x0D, 0x0B⟩ ⟨0x02, 0x01, 0x01, 0x03⟩ = ⟨1, 0, 0, 0⟩ := by decide
  rw [invMixColumn_eq_mulColumn, mixColumn_eq_mulColumn, ← mulColumn_assoc, h, mulColumn_one_left]

@[simp] theorem mixColumn_invMixColumn (a : Column) : mixColumn (invMixColumn a) = a := by
  have h : mulColumn ⟨0x02, 0x01, 0x01, 0x03⟩ ⟨0x0E, 0x09, 0x0D, 0x0B⟩ = ⟨1, 0, 0, 0⟩ := by decide
  rw [mixColumn_eq_mulColumn, invMixColumn_eq_mulColumn, ← mulColumn_assoc, h, mulColumn_one_left]

theorem invMixColumn_xorColumn (a b : Column) :
    invMixColumn (xorColumn a b) = xorColumn (invMixColumn a) (invMixColumn b) := by
  simp only [invMixColumn_eq_mulColumn, mulColumn_xorColumn]

/-! ### Blocks -/

@[simp] theorem invMixColumns_mixColumns (s : Block) : invMixColumns (mixColumns s) = s := by
  simp [invMixColumns, mixColumns]

@[simp] theorem mixColumns_invMixColumns (s : Block) : mixColumns (invMixColumns s) = s := by
  simp [invMixColumns, mixColumns]

theorem invMixColumns_xorBlock (a b : Block) :
    invMixColumns (xorBlock a b) = xorBlock (invMixColumns a) (invMixColumns b) := by
  simp only [invMixColumns, xorBlock, invMixColumn_xorColumn]

@[simp] theorem invSubBytes_subBytes (s : Block) : invSubBytes (subBytes s) = s := by
  simp [invSubBytes, subBytes, invSubColumn, subColumn]

@[simp] theorem subBytes_invSubBytes (s : Block) : subBytes (invSubBytes s) = s := by
  simp [invSubBytes, subBytes, invSubColumn, subColumn]

@[simp] theorem invShiftRows_shiftRows (s : Block) : invShiftRows (shiftRows s) = s := rfl

@[simp] theorem shiftRows_invShiftRows (s : Block) : shiftRows (invShiftRows s) = s := rfl

/-- A substitution of bytes does not mind where they stand. -/
theorem invShiftRows_invSubBytes (s : Block) : invShiftRows (invSubBytes s) = invSubBytes (invShiftRows s) := rfl

@[simp] theorem xorBlock_xorBlock_cancel_right (a b : Block) : xorBlock (xorBlock a b) b = a := by
  simp [xorBlock, xorColumn]

@[simp] theorem addRoundKey_addRoundKey (s : Block) (w : Schedule) (r : Nat) :
    addRoundKey (addRoundKey s w r) w r = s :=
  xorBlock_xorBlock_cancel_right s (roundKey w r)

/-- Settles O50: byte by byte, by moving bytes, and column by column. -/
theorem inverseTransformsUndoTransforms : Obligations.InverseTransformsUndoTransforms := fun s =>
  ⟨invSubBytes_subBytes s, invShiftRows_shiftRows s, invMixColumns_mixColumns s, mixColumns_invMixColumns s⟩

end Sys2Proof.Machine
end

section
/-!
PROOFS. The key schedules word by word (40_cipher_core.md R152, R154).
-/

namespace Sys2Proof.Machine

/-! ### The loop of R152 -/

theorem expandLoop_getD_of_lt (n : Nat) {ws : List Word} {i : Nat} (h : i < ws.length) :
    (expandLoop n ws).getD i 0 = ws.getD i 0 := by
  induction n generalizing ws with
  | zero => rfl
  | succ n ih => rw [expandLoop, ih (by simp; omega), List.getD_append _ _ _ _ h]

/-- Each pass appends one word, from the words that the passes before it have left. -/
theorem expandLoop_getD_of_le (n : Nat) {ws : List Word} {i : Nat} (h8 : 8 ≤ ws.length) (hi : ws.length ≤ i)
    (hn : i < ws.length + n) :
    (expandLoop n ws).getD i 0 =
      (expandLoop n ws).getD (i - 8) 0 ^^^ expandTemp i ((expandLoop n ws).getD (i - 1) 0) := by
  induction n generalizing ws with
  | zero => omega
  | succ n ih =>
    rw [expandLoop]
    rcases Nat.eq_or_lt_of_le hi with rfl | hlt
    · iterate 3 rw [expandLoop_getD_of_lt n (by simp)]
      rw [List.getD_append_right _ _ _ _ le_rfl, Nat.sub_self, List.getD_cons_zero,
        List.getD_append _ _ _ _ (show ws.length - 8 < ws.length by omega),
        List.getD_append _ _ _ _ (show ws.length - 1 < ws.length by omega)]
    · exact ih (by simp; omega) (by simpa using hlt) (by simp; omega)

/-! ### The encrypt schedule -/

theorem scheduleWord_expandKey (k : Bytes32) (i : Nat) :
    scheduleWord (expandKey k) i = (expandLoop 52 (keyWords k)).getD i 0 := rfl

theorem scheduleWord_expandKey_of_lt (k : Bytes32) {i : Nat} (h : i < 8) :
    scheduleWord (expandKey k) i = (keyWords k).getD i 0 := by
  rw [scheduleWord_expandKey, expandLoop_getD_of_lt 52 h]

theorem scheduleWord_expandKey_of_le (k : Bytes32) {i : Nat} (h : 8 ≤ i) (hi : i < 60) :
    scheduleWord (expandKey k) i =
      scheduleWord (expandKey k) (i - 8) ^^^ expandTemp i (scheduleWord (expandKey k) (i - 1)) := by
  simp only [scheduleWord_expandKey]
  exact expandLoop_getD_of_le 52 (ws := keyWords k) le_rfl h hi

/-! ### The decrypt schedule -/

theorem scheduleWord_expandDecKey (k : Bytes32) {i : Nat} (h : i < 60) :
    scheduleWord (expandDecKey k) i = decWord (expandKey k) i := by
  show ((List.range 60).map (decWord (expandKey k))).getD i 0 = _
  simp [h]

/-- Word `4r + c` of the decrypt schedule belongs to round key `r` (R154). -/
theorem scheduleWord_expandDecKey_round (k : Bytes32) {r c : Nat} (hr : r < 15) (hc : c < 4) :
    scheduleWord (expandDecKey k) (4 * r + c) =
      if r = 0 ∨ r = 14 then scheduleWord (expandKey k) (4 * (14 - r) + c)
      else invMixWord (scheduleWord (expandKey k) (4 * (14 - r) + c)) := by
  have hq : (4 * r + c) / 4 = r := by omega
  have hm : (4 * r + c) % 4 = c := by omega
  rw [scheduleWord_expandDecKey k (by omega), decWord, hq, hm]

/-- Settles O51: by the loop's recurrence, and by the definition of the decrypt schedule's words. -/
theorem keySchedulesFollowRecurrence : Obligations.KeySchedulesFollowRecurrence := fun k =>
  ⟨List.map_congr_left fun _ hi => scheduleWord_expandKey_of_lt k (List.mem_range.mp hi),
    fun _ h hi => scheduleWord_expandKey_of_le k h hi,
    fun _ _ hr hc => scheduleWord_expandDecKey_round k hr hc⟩

end Sys2Proof.Machine
end

section
/-!
PROOFS. The block decryptor against the block encryptor (40_cipher_core.md R155 to R157): over any schedule the straightforward
inverse cipher undoes the encryptor, and over a key's schedules the decryptor is the straightforward inverse cipher.
-/

namespace Sys2Proof.Machine

/-! ### The straightforward inverse cipher, over any schedule -/

/-- `n` inverse rounds undo the last `n` of the encryptor's 13 rounds. -/
theorem straightRounds_encRounds (w : Schedule) (s : Block) {n : Nat} (h : n ≤ 13) :
    straightRounds w n (shiftRows (subBytes (encRounds w 13 s))) = shiftRows (subBytes (encRounds w (13 - n) s)) := by
  induction n with
  | zero => rfl
  | succ n ih =>
    have hround : 13 - n = 13 - (n + 1) + 1 := by omega
    rw [straightRounds, ih (by omega), invShiftRows_shiftRows, invSubBytes_subBytes, hround, encRounds,
      addRoundKey_addRoundKey, invMixColumns_mixColumns]

/-- `n` rounds of the encryptor undo the last `n` of 13 inverse rounds. -/
theorem encRounds_straightRounds (w : Schedule) (s : Block) {n : Nat} (h : n ≤ 13) :
    encRounds w n (invSubBytes (invShiftRows (straightRounds w 13 s))) =
      invSubBytes (invShiftRows (straightRounds w (13 - n) s)) := by
  induction n with
  | zero => rfl
  | succ n ih =>
    have hround : 13 - n = 13 - (n + 1) + 1 := by omega
    have hkey : 13 - (13 - (n + 1)) = n + 1 := by omega
    rw [encRounds, ih (by omega), subBytes_invSubBytes, shiftRows_invShiftRows, hround, straightRounds, hkey,
      mixColumns_invMixColumns, addRoundKey_addRoundKey]

theorem straightDecrypt_encryptBlock (b : Block) (w : Schedule) : straightDecrypt (encryptBlock b w) w = b := by
  rw [straightDecrypt, encryptBlock, addRoundKey_addRoundKey, straightRounds_encRounds w _ le_rfl, invShiftRows_shiftRows,
    invSubBytes_subBytes, Nat.sub_self, encRounds, addRoundKey_addRoundKey]

theorem encryptBlock_straightDecrypt (b : Block) (w : Schedule) : encryptBlock (straightDecrypt b w) w = b := by
  rw [encryptBlock, straightDecrypt, addRoundKey_addRoundKey, encRounds_straightRounds w _ le_rfl, subBytes_invSubBytes,
    shiftRows_invShiftRows, Nat.sub_self, straightRounds, addRoundKey_addRoundKey]

/-! ### Words of bytes -/

theorem extractLsb'_append_byte {n : Nat} (x : BitVec n) (b : Byte) (i len : Nat) :
    (x ++ b).extractLsb' (i + 8) len = x.extractLsb' i len :=
  BitVec.extractLsb'_append_eq_of_le (Nat.le_add_left 8 i)

theorem bytes32_be32 (c : Column) : bytes32 (be32 c) = c := by
  have h0 : (c.r0 ++ c.r1 ++ c.r2 ++ c.r3).extractLsb' 24 8 = c.r0 := by
    rw [extractLsb'_append_byte _ _ 16, extractLsb'_append_byte _ _ 8, BitVec.extractLsb'_append_eq_left]
  have h1 : (c.r0 ++ c.r1 ++ c.r2 ++ c.r3).extractLsb' 16 8 = c.r1 := by
    rw [extractLsb'_append_byte _ _ 8, extractLsb'_append_byte _ _ 0, BitVec.extractLsb'_append_eq_right]
  have h2 : (c.r0 ++ c.r1 ++ c.r2 ++ c.r3).extractLsb' 8 8 = c.r2 := by
    rw [extractLsb'_append_byte _ _ 0, BitVec.extractLsb'_append_eq_right]
  exact Column.ext h0 h1 h2 BitVec.extractLsb'_append_eq_right

/-! ### The decryptor, over the schedules of one key -/

seal expandKey expandDecKey in
/-- The first and the last round key of the decrypt schedule are the last and the first of the encrypt schedule (R154). -/
theorem roundKey_expandDecKey_of_end (k : Bytes32) {r : Nat} (h : r = 0 ∨ r = 14) :
    roundKey (expandDecKey k) r = roundKey (expandKey k) (14 - r) := by
  have hw (c : Nat) (hc : c < 4) :
      bytes32 (scheduleWord (expandDecKey k) (4 * r + c)) = bytes32 (scheduleWord (expandKey k) (4 * (14 - r) + c)) := by
    rw [scheduleWord_expandDecKey_round k (by omega) hc, if_pos h]
  exact Block.ext (hw 0 (by decide)) (hw 1 (by decide)) (hw 2 (by decide)) (hw 3 (by decide))

seal expandKey expandDecKey in
/-- The round keys between go through `InvMixColumns` (R154). -/
theorem roundKey_expandDecKey_of_inner (k : Bytes32) {r : Nat} (h0 : 0 < r) (h14 : r < 14) :
    roundKey (expandDecKey k) r = invMixColumns (roundKey (expandKey k) (14 - r)) := by
  have hw (c : Nat) (hc : c < 4) :
      bytes32 (scheduleWord (expandDecKey k) (4 * r + c)) =
        invMixColumn (bytes32 (scheduleWord (expandKey k) (4 * (14 - r) + c))) := by
    rw [scheduleWord_expandDecKey_round k (by omega) hc, if_neg (by omega), invMixWord, bytes32_be32]
  exact Block.ext (hw 0 (by decide)) (hw 1 (by decide)) (hw 2 (by decide)) (hw 3 (by decide))

/-- Key addition between `InvMixColumns` and the next round is key addition before it with the key of the encrypt schedule. -/
theorem addRoundKey_invMixColumns (k : Bytes32) (s : Block) {r : Nat} (h0 : 0 < r) (h14 : r < 14) :
    addRoundKey (invMixColumns s) (expandDecKey k) r = invMixColumns (addRoundKey s (expandKey k) (14 - r)) := by
  rw [addRoundKey, addRoundKey, roundKey_expandDecKey_of_inner k h0 h14, invMixColumns_xorBlock]

theorem decRounds_expandDecKey (k : Bytes32) (s : Block) {n : Nat} (h : n ≤ 13) :
    decRounds (expandDecKey k) n s = straightRounds (expandKey k) n s := by
  induction n with
  | zero => rfl
  | succ n ih =>
    have hkey : 14 - (n + 1) = 13 - n := by omega
    rw [decRounds, ih (by omega), addRoundKey_invMixColumns k _ (by omega) (by omega), invShiftRows_invSubBytes, hkey,
      straightRounds]

/-- The equivalent inverse cipher is the straightforward one (R157). -/
theorem decryptBlock_expandDecKey (k : Bytes32) (b : Block) :
    decryptBlock b (expandDecKey k) = straightDecrypt b (expandKey k) := by
  have hfirst (s : Block) : addRoundKey s (expandDecKey k) 0 = addRoundKey s (expandKey k) 14 :=
    congrArg (xorBlock s) (roundKey_expandDecKey_of_end k (.inl rfl))
  have hlast (s : Block) : addRoundKey s (expandDecKey k) 14 = addRoundKey s (expandKey k) 0 :=
    congrArg (xorBlock s) (roundKey_expandDecKey_of_end k (.inr rfl))
  rw [decryptBlock, hfirst, hlast, decRounds_expandDecKey k _ le_rfl, invShiftRows_invSubBytes, straightDecrypt]

/-- Settles O52: the decryptor is the straightforward inverse cipher, which undoes the encryptor round by round. -/
theorem decryptInvertsEncrypt : Obligations.DecryptInvertsEncrypt := by
  intro k b
  refine ⟨?_, ?_, decryptBlock_expandDecKey k b⟩
  · rw [decryptBlock_expandDecKey, straightDecrypt_encryptBlock]
  · rw [decryptBlock_expandDecKey, encryptBlock_straightDecrypt]

end Sys2Proof.Machine
end

section
/-!
PROOFS. The schedule commands and the block commands (40_cipher_core.md R160 to R163): what their completion computes, and what it
leaves unchanged.
-/

namespace Sys2Proof.Machine

/-- A completion's DMEM is its body's. -/
theorem readBlock_complete (s : State) (a : Nat) : s.complete.readBlock a = s.readBlock a := rfl

/-! ### KSE and KSD -/

/-- KSE and KSD have no operand that validation could refuse (R111, R263). -/
theorem latchValid_of_kse_or_ksd {i : Instr} (h : i = .kse ∨ i = .ksd) (s : State) : s.latchValid i = true := by
  rcases h with rfl | rfl <;> rfl

/-- Settles O14: the body derives the schedule of the latched key, and completion keeps it. -/
theorem scheduleCommandsDeriveSchedules : Obligations.ScheduleCommandsDeriveSchedules :=
  ⟨fun s hp => ⟨_, exec_of_run hp (latchValid_of_kse_or_ksd (.inl rfl) s), completes_commandBody .kse s,
      (State.complete_eks _).trans (deriveEks_eks s), (State.complete_eksValid _).trans (deriveEks_eksValid s)⟩,
    fun s hp => ⟨_, exec_of_run hp (latchValid_of_kse_or_ksd (.inr rfl) s), completes_commandBody .ksd s,
      (State.complete_dks _).trans (deriveDks_dks s), (State.complete_dksValid _).trans (deriveDks_dksValid s)⟩⟩

seal expandKey expandDecKey in
/-- Settles O20: the common frame of the bodies, and the fields that `deriveEks` and `deriveDks` keep. -/
theorem scheduleCommandsFrame : Obligations.ScheduleCommandsFrame := by
  intro i s t hi hp h
  obtain ⟨-, rfl⟩ := exec_run_next hp h
  refine ⟨keepsControl_commandBody i s, completes_commandBody i s, ?_⟩
  rcases hi with rfl | rfl
  · exact ⟨rfl, rfl, fun _ => ⟨rfl, rfl⟩, nofun, fun _ => rfl⟩
  · exact ⟨rfl, rfl, nofun, fun _ => ⟨rfl, rfl⟩, fun _ => rfl⟩

/-! ### ENCB and DECB -/

/-- The range check of validation keeps the destination within DMEM (R267). -/
theorem dst_le_of_latchValid {i : Instr} {s : State} (hm : movesData i = true) (h : s.latchValid i = true) :
    s.latch.dst.toNat + byteCount i s.latch.n.toNat ≤ s.cfg.dmemBytes := by
  by_contra hlt
  have hrange : movesData i = true ∧ (s.cfg.dmemBytes < s.latch.src.toNat + byteCount i s.latch.n.toNat ∨
      s.cfg.dmemBytes < s.latch.dst.toNat + byteCount i s.latch.n.toNat) := ⟨hm, .inr (by omega)⟩
  rw [State.latchValid, beq_iff_eq, validateOperands, if_pos hrange] at h
  split_ifs at h

seal encryptBlock decryptBlock in
/-- Settles O15: the block that the body writes reads back, since validation put it within DMEM. -/
theorem blockCommandsTransformOneBlock : Obligations.BlockCommandsTransformOneBlock :=
  ⟨fun s hp hl => ⟨_, exec_of_run hp hl, completes_commandBody .encb s,
      State.readBlock_writeBlock_self (s.encryptInto (s.readBlock s.latch.src.toNat)) _ (dst_le_of_latchValid rfl hl)⟩,
    fun s hp hl => ⟨_, exec_of_run hp hl, completes_commandBody .decb s,
      State.readBlock_writeBlock_self (s.decryptInto (s.readBlock s.latch.src.toNat)) _ (dst_le_of_latchValid rfl hl)⟩⟩

theorem sameOutside_writeBlock (s : State) (a : Nat) (b : Block) : SameOutside a 16 s (s.writeBlock a b) :=
  fun _ hx => readByte_writeBlock_outside s a b hx

seal encryptBlock decryptBlock in
/-- Settles O21: the common frame of the bodies, and the one block that each writes. -/
theorem blockCommandsFrame : Obligations.BlockCommandsFrame := by
  intro i s t hi hp h
  obtain ⟨-, rfl⟩ := exec_run_next hp h
  refine ⟨keepsControl_commandBody i s, completes_commandBody i s, ?_⟩
  rcases hi with rfl | rfl
  · exact ⟨rfl, rfl, rfl, rfl, rfl, rfl, sameOutside_writeBlock (s.encryptInto _) _ _⟩
  · exact ⟨rfl, rfl, rfl, rfl, rfl, rfl, sameOutside_writeBlock (s.decryptInto _) _ _⟩

end Sys2Proof.Machine
end

section
/-!
PROOFS. The CBC chain as a function on lists of blocks (41_cbc.md R200 to R203): its round trip, its split over two parts, and the
reach of a changed ciphertext block.
-/

namespace Sys2Proof.Machine

/-! ### Exclusive or of blocks -/

theorem xorBlock_assoc (a b c : Block) : xorBlock (xorBlock a b) c = xorBlock a (xorBlock b c) := by
  simp only [xorBlock, xorColumn, BitVec.xor_assoc]

/-! ### Round trip -/

/-- Settles O54, by induction on the blocks: a block is undone by `decryptInvertsEncrypt`, and both directions chain the same
ciphertext block on. -/
theorem cbcRoundTrip : Obligations.CbcRoundTrip := by
  intro k iv d
  induction d generalizing iv with
  | nil => rfl
  | cons p ps ih =>
    obtain ⟨hdec, -, -⟩ := decryptInvertsEncrypt k (xorBlock p iv)
    rw [cbcEncrypt, cbcDecrypt, hdec, xorBlock_xorBlock_cancel_right, ih]

/-! ### Two parts -/

theorem lastBlock_cons (iv c : Block) (cs : List Block) : lastBlock iv (c :: cs) = lastBlock c cs := by
  rw [lastBlock, lastBlock, List.getLast?_cons, Option.getD_some]

@[simp] theorem lastBlock_concat (iv : Block) (cs : List Block) (c : Block) : lastBlock iv (cs ++ [c]) = c := by
  rw [lastBlock, List.getLast?_concat, Option.getD_some]

theorem cbcEncrypt_append (w : Schedule) (iv : Block) (d₁ d₂ : List Block) :
    cbcEncrypt w iv (d₁ ++ d₂) =
      cbcEncrypt w iv d₁ ++ cbcEncrypt w (lastBlock iv (cbcEncrypt w iv d₁)) d₂ := by
  induction d₁ generalizing iv with
  | nil => rfl
  | cons p ps ih => rw [List.cons_append, cbcEncrypt, ih, cbcEncrypt, List.cons_append, lastBlock_cons]

theorem cbcDecrypt_append (w : Schedule) (iv : Block) (d₁ d₂ : List Block) :
    cbcDecrypt w iv (d₁ ++ d₂) = cbcDecrypt w iv d₁ ++ cbcDecrypt w (lastBlock iv d₁) d₂ := by
  induction d₁ generalizing iv with
  | nil => rfl
  | cons c cs ih => rw [List.cons_append, cbcDecrypt, ih, cbcDecrypt, List.cons_append, lastBlock_cons]

/-- Settles O55: each direction by induction on the blocks of the first part. -/
theorem cbcSplitsAtBlocks : Obligations.CbcSplitsAtBlocks := fun w iv d₁ d₂ =>
  ⟨cbcEncrypt_append w iv d₁ d₂, cbcDecrypt_append w iv d₁ d₂⟩

/-! ### A changed ciphertext block -/

/-- A plaintext block depends on its own ciphertext block and, by exclusive or only, on the one before it. -/
theorem cbcDecrypt_eq_zipWith (d : Schedule) (iv : Block) (cs : List Block) :
    cbcDecrypt d iv cs = List.zipWith (fun c cv => xorBlock (decryptBlock c d) cv) cs (iv :: cs) := by
  induction cs generalizing iv with
  | nil => rfl
  | cons c cs ih => rw [cbcDecrypt, ih, List.zipWith_cons_cons]

/-- Settles O56: block `j` of the plaintext looks at ciphertext blocks `j` and `j - 1` only, and at the latter by exclusive or. -/
theorem cbcErrorPropagation : Obligations.CbcErrorPropagation := by
  intro d iv cs i j c e hc
  rw [cbcDecrypt_eq_zipWith, cbcDecrypt_eq_zipWith, List.getElem?_zipWith, List.getElem?_zipWith]
  refine ⟨fun hi hi' => ?_, fun hj => ?_⟩
  · rw [← List.set_cons_succ, List.getElem?_set_ne (Ne.symm hi), List.getElem?_set_ne (Ne.symm hi')]
  · have hlt : i < cs.length := (List.getElem?_eq_some_iff.mp hc).1
    rw [hj, List.getElem?_set_ne i.ne_add_one, List.getElem?_cons_succ, List.getElem?_cons_succ,
      List.getElem?_set_self hlt, hc]
    cases cs[i + 1]? with
    | none => rfl
    | some c' => exact congrArg some (xorBlock_assoc _ c e).symm

end Sys2Proof.Machine
end

section
/-!
PROOFS. Commands that work through their data block by block (41_cbc.md R200, R201, 43_ige.md R240): what validation says of their
source and destination, and the loop over the blocks, which sees every input block as it was before the command (20_memory.md R97).
-/

namespace Sys2Proof.Machine

/-! ### What stays the same but for DMEM and the working registers -/

section
variable {s t : State} (h : DataOnly s t)
include h

theorem DataOnly.cfg_eq : t.cfg = s.cfg := (congrArg State.cfg h :)
theorem DataOnly.latch_eq : t.latch = s.latch := (congrArg State.latch h :)
theorem DataOnly.iv_eq : t.iv = s.iv := (congrArg State.iv h :)
theorem DataOnly.eks_eq : t.eks = s.eks := (congrArg State.eks h :)
theorem DataOnly.dks_eq : t.dks = s.dks := (congrArg State.dks h :)
theorem DataOnly.eksValid_eq : t.eksValid = s.eksValid := (congrArg State.eksValid h :)
theorem DataOnly.dksValid_eq : t.dksValid = s.dksValid := (congrArg State.dksValid h :)

end

/-! ### The blocks of DMEM -/

theorem blocksAt_succ (s : State) (a n : Nat) : s.blocksAt a (n + 1) = s.blocksAt a n ++ [s.readBlock (a + 16 * n)] := by
  rw [State.blocksAt, List.range_succ, List.map_append, List.map_singleton, State.blocksAt]

theorem blocksAt_congr {s t : State} {a n : Nat} (h : ∀ x, a ≤ x → x < a + 16 * n → t.readByte x = s.readByte x) :
    t.blocksAt a n = s.blocksAt a n :=
  List.map_congr_left fun i hi => by
    have hlt := List.mem_range.mp hi
    exact State.readBlock_congr fun j hj => h _ (by omega) (by omega)

/-! ### What validation lets pass -/

/-- The source and the destination of `n` blocks are the same range or lie apart, and the destination lies within DMEM. -/
def BlockRanges (s : State) (n : Nat) : Prop :=
  s.latch.dst.toNat + 16 * n ≤ s.cfg.dmemBytes ∧
    (s.latch.src.toNat = s.latch.dst.toNat ∨ s.latch.dst.toNat + 16 * n ≤ s.latch.src.toNat ∨
      s.latch.src.toNat + 16 * n ≤ s.latch.dst.toNat)

/-- The overlap check of validation: the ranges are the same or lie apart (R268). -/
theorem disjoint_of_latchValid {i : Instr} {s : State} (hm : movesData i = true) (h : s.latchValid i = true) :
    s.latch.src.toNat = s.latch.dst.toNat ∨
      s.latch.dst.toNat + byteCount i s.latch.n.toNat ≤ s.latch.src.toNat ∨
        s.latch.src.toNat + byteCount i s.latch.n.toNat ≤ s.latch.dst.toNat := by
  by_contra hbad
  have hover : movesData i = true ∧ s.latch.src.toNat ≠ s.latch.dst.toNat ∧
      s.latch.src.toNat < s.latch.dst.toNat + byteCount i s.latch.n.toNat ∧
      s.latch.dst.toNat < s.latch.src.toNat + byteCount i s.latch.n.toNat := ⟨hm, by omega, by omega, by omega⟩
  rw [State.latchValid, beq_iff_eq, validateOperands, if_pos hover] at h
  split_ifs at h

theorem movesData_of_isMode {i : Instr} (h : isMode i = true) : movesData i = true := by
  cases i <;> simp_all [isMode, movesData]

/-- A mode command's operands, once validated, are such ranges of whole blocks. -/
theorem blockRanges_of_latchValid {i : Instr} {s : State} (hi : isMode i = true) (h : s.latchValid i = true) :
    BlockRanges s (s.latch.n.toNat / 16) := by
  have hm := movesData_of_isMode hi
  have hdst := dst_le_of_latchValid hm h
  have hapart := disjoint_of_latchValid hm h
  rw [byteCount_of_isMode hi] at hdst hapart
  exact ⟨by omega, by omega⟩

/-! ### The loop over the blocks -/

/-- The input block of the pass over block `BI`. -/
def State.blockIn (s : State) : Block :=
  s.readBlock (s.latch.src.toNat + 16 * s.work.bi)

/-- Where the pass over block `BI` puts its output block. -/
def State.blockOutAt (s : State) : Nat :=
  s.latch.dst.toNat + 16 * s.work.bi

section
variable {body : State → State} (hb : ∀ t, BlockPass t (body t)) {s : State} (h0 : s.work.bi = 0)
include hb h0

theorem blockOutAt_repeatBody (m : Nat) : (repeatBody body m s).blockOutAt = s.latch.dst.toNat + 16 * m := by
  obtain ⟨hdata, hbi, -⟩ := repeatBody_pass hb m h0
  rw [State.blockOutAt, hdata.latch_eq, hbi]

/-- Pass `m` reads its input block as it was before the first pass: the passes before it wrote only earlier blocks of the
destination (R97). -/
theorem blockIn_repeatBody {n m : Nat} (hr : BlockRanges s n) (hm : m < n) :
    (repeatBody body m s).blockIn = s.readBlock (s.latch.src.toNat + 16 * m) := by
  obtain ⟨hdata, hbi, hout⟩ := repeatBody_pass hb m h0
  obtain ⟨-, hapart⟩ := hr
  rw [State.blockIn, hdata.latch_eq, hbi]
  exact State.readBlock_congr fun j hj => hout _ (by omega)

/-- Pass `m` adds its block to the blocks that the passes before it wrote. -/
theorem blocksAt_dst_repeatBody_succ (m : Nat) :
    (repeatBody body (m + 1) s).blocksAt s.latch.dst.toNat (m + 1) =
      (repeatBody body m s).blocksAt s.latch.dst.toNat m ++
        [(body (repeatBody body m s)).readBlock (repeatBody body m s).blockOutAt] := by
  have hat := blockOutAt_repeatBody hb h0 m
  obtain ⟨-, -, hout⟩ := hb (repeatBody body m s)
  rw [← State.blockOutAt, hat] at hout
  rw [blocksAt_succ, repeatBody_succ, hat, blocksAt_congr fun x _ hx => hout x (by omega)]

end

/-- A pass carries a chain on: after input blocks `ps`, whose outputs are `F ps`, the working registers hold the chain's link
`Link ps`, and the next pass writes the output of its input block and leaves the next link. -/
def ChainPass (F : List Block → List Block) (Link : List Block → Work → Prop) (s : State) (body : State → State) : Prop :=
  ∀ t ps, DataOnly s t → Link ps t.work → t.blockOutAt + 16 ≤ t.cfg.dmemBytes →
    F (ps ++ [t.blockIn]) = F ps ++ [(body t).readBlock t.blockOutAt] ∧ Link (ps ++ [t.blockIn]) (body t).work

/-- The loop over `n` blocks writes the chain's outputs for the input blocks as they were before the command (R97). -/
theorem repeatBody_chain {F : List Block → List Block} {Link : List Block → Work → Prop} {s : State}
    {body : State → State} (hb : ∀ t, BlockPass t (body t)) (hc : ChainPass F Link s body) (h0 : s.work.bi = 0) (hF : F [] = [])
    (hL : Link [] s.work) {n m : Nat} (hr : BlockRanges s n) (hm : m ≤ n) :
    (repeatBody body m s).blocksAt s.latch.dst.toNat m = F (s.blocksAt s.latch.src.toNat m) ∧
      Link (s.blocksAt s.latch.src.toNat m) (repeatBody body m s).work := by
  induction m with
  | zero => exact ⟨hF.symm, hL⟩
  | succ m ih =>
    obtain ⟨hout, hlink⟩ := ih (by omega)
    obtain ⟨hdata, -, -⟩ := repeatBody_pass hb m h0
    have hin : (repeatBody body m s).blockOutAt + 16 ≤ (repeatBody body m s).cfg.dmemBytes := by
      obtain ⟨hdst, -⟩ := hr
      rw [blockOutAt_repeatBody hb h0, hdata.cfg_eq]; omega
    obtain ⟨hF', hL'⟩ := hc _ _ hdata hlink hin
    rw [blockIn_repeatBody hb h0 hr hm, ← blocksAt_succ] at hF' hL'
    rw [blocksAt_dst_repeatBody_succ hb h0, hout, hF', repeatBody_succ]
    exact ⟨rfl, hL'⟩

end Sys2Proof.Machine
end

section
/-!
PROOFS. The commands CBCE and CBCD (41_cbc.md R200, R201): what their completion computes, and what it leaves unchanged.
-/

namespace Sys2Proof.Machine

/-! ### `SetIV16` (10_state.md R42) -/

theorem registerBytes_setLow16 (r : Vector Word 8) (b : Block) :
    registerBytes (setLow16 r b) = { lo := b, hi := (registerBytes r).hi } := by
  simp [registerBytes, setLow16, bytes32_be32]

/-! ### One block of the chain -/

seal encryptBlock in
theorem cbcEncBlock_cv (s : State) :
    (cbcEncBlock s).work.cv = encryptBlock (xorBlock s.blockIn s.work.cv) s.eks := rfl

seal decryptBlock in
theorem cbcDecBlock_cv (s : State) : (cbcDecBlock s).work.cv = s.blockIn := rfl

seal encryptBlock in
theorem readBlock_cbcEncBlock {s : State} (h : s.blockOutAt + 16 ≤ s.cfg.dmemBytes) :
    (cbcEncBlock s).readBlock s.blockOutAt = encryptBlock (xorBlock s.blockIn s.work.cv) s.eks :=
  State.readBlock_writeBlock_self (s.encryptInto (xorBlock s.blockIn s.work.cv)) _ h

seal decryptBlock in
theorem readBlock_cbcDecBlock {s : State} (h : s.blockOutAt + 16 ≤ s.cfg.dmemBytes) :
    (cbcDecBlock s).readBlock s.blockOutAt = xorBlock (decryptBlock s.blockIn s.dks) s.work.cv :=
  State.readBlock_writeBlock_self (s.decryptInto s.blockIn) _ h

/-- `CV` holds the last block of the ciphertext `cipher ps` of the input blocks `ps`, or the IV while there is none. -/
def CvLink (iv : Block) (cipher : List Block → List Block) (ps : List Block) (wk : Work) : Prop :=
  wk.cv = lastBlock iv (cipher ps)

/-- A pass of CBCE writes the next ciphertext block and keeps it in `CV`. -/
theorem cbcEncBlock_chainPass (s : State) (iv : Block) :
    ChainPass (cbcEncrypt s.eks iv) (CvLink iv (cbcEncrypt s.eks iv)) s cbcEncBlock := by
  intro t ps ht hcv hin
  have hnext : cbcEncrypt s.eks iv (ps ++ [t.blockIn]) =
      cbcEncrypt s.eks iv ps ++ [encryptBlock (xorBlock t.blockIn t.work.cv) t.eks] := by
    rw [cbcEncrypt_append, ← hcv, ht.eks_eq]; rfl
  refine ⟨by rw [hnext, readBlock_cbcEncBlock hin], ?_⟩
  rw [CvLink, hnext, lastBlock_concat, cbcEncBlock_cv]

/-- A pass of CBCD writes the next plaintext block and keeps its ciphertext block in `CV`. -/
theorem cbcDecBlock_chainPass (s : State) (iv : Block) :
    ChainPass (cbcDecrypt s.dks iv) (CvLink iv id) s cbcDecBlock := by
  intro t ps ht (hcv : t.work.cv = lastBlock iv ps) hin
  have hnext : cbcDecrypt s.dks iv (ps ++ [t.blockIn]) =
      cbcDecrypt s.dks iv ps ++ [xorBlock (decryptBlock t.blockIn t.dks) t.work.cv] := by
    rw [cbcDecrypt_append, ← hcv, ht.dks_eq]; rfl
  refine ⟨by rw [hnext, readBlock_cbcDecBlock hin], ?_⟩
  rw [CvLink, id_eq, lastBlock_concat, cbcDecBlock_cv]

/-! ### The two bodies -/

/-- What the bodies of CBCE and CBCD share: `pass` for each block from `IV_L` on, and `CV` written back (R200, R201). -/
def cbcBody (pass : State → State) (s : State) : State :=
  let t := repeatBody pass (s.latch.n.toNat / 16) (cbcInit s)
  t.setIv16 t.work.cv

theorem commandBody_cbce (s : State) : commandBody .cbce s = cbcBody cbcEncBlock (deriveEks s) := rfl

theorem commandBody_cbcd (s : State) : commandBody .cbcd s = cbcBody cbcDecBlock (deriveDks s) := rfl

/-- The body writes the chain's outputs and leaves the last ciphertext block in `IV0..IV3`. -/
theorem cbcBody_chain {F cipher : List Block → List Block} {pass : State → State} {s : State}
    (hb : ∀ t, BlockPass t (pass t)) (hc : ChainPass F (CvLink s.latch.iv.lo cipher) (cbcInit s) pass) (hF : F [] = [])
    (hcipher : cipher [] = []) (hr : BlockRanges s (s.latch.n.toNat / 16)) :
    (cbcBody pass s).blocksAt s.latch.dst.toNat (s.latch.n.toNat / 16) =
        F (s.blocksAt s.latch.src.toNat (s.latch.n.toNat / 16)) ∧
      registerBytes (cbcBody pass s).iv =
        { lo := lastBlock s.latch.iv.lo (cipher (s.blocksAt s.latch.src.toNat (s.latch.n.toNat / 16)))
          hi := (registerBytes s.iv).hi } := by
  have hinit : CvLink s.latch.iv.lo cipher [] (cbcInit s).work := by rw [CvLink, hcipher]; rfl
  obtain ⟨hdata, -, -⟩ := repeatBody_pass hb (s.latch.n.toNat / 16) (s := cbcInit s) rfl
  obtain ⟨hout, hcv⟩ := repeatBody_chain hb hc rfl hF hinit (n := s.latch.n.toNat / 16) hr le_rfl
  refine ⟨hout, ?_⟩
  rw [cbcBody, State.setIv16_iv, registerBytes_setLow16, hcv, hdata.iv_eq]; rfl

/-- The body leaves every byte outside the destination alone. -/
theorem sameOutside_cbcBody {pass : State → State} (hb : ∀ t, BlockPass t (pass t)) (s : State) :
    SameOutside s.latch.dst.toNat s.latch.n.toNat s (cbcBody pass s) := by
  obtain ⟨-, -, hout⟩ := repeatBody_pass hb (s.latch.n.toNat / 16) (s := cbcInit s) rfl
  rw [cbcInit_latch] at hout
  exact fun x hx => hout x (by omega)

/-! ### The commands -/

theorem commandBody_keepsSchedules (i : Instr) (s : State) : KeepsSchedules (deriveSchedule i s) (commandBody i s) := by
  obtain ⟨t, ht, hw⟩ := commandBody_effect i s
  generalize commandBody i s = u at hw ⊢
  cases hw with
  | _ => exact ⟨ht.eks_eq, ht.dks_eq, ht.eksValid_eq, ht.dksValid_eq⟩

/-- No command writes `IV4..IV7` (R42). -/
theorem commandBody_keepsHighIv (i : Instr) (s : State) : KeepsHighIv s (commandBody i s) := by
  obtain ⟨t, ht, hw⟩ := commandBody_effect i s
  have h : t.iv = s.iv := ht.iv_eq.trans (deriveSchedule_iv i s)
  generalize commandBody i s = u at hw ⊢
  rw [KeepsHighIv, ← h]
  cases hw with
  | _ => exact ⟨rfl, rfl, rfl, rfl⟩

seal expandKey expandDecKey encryptBlock decryptBlock in
/-- Settles O16: each body is the shared one with its own pass, which carries the CBC chain on; validation gives the ranges that
the loop needs. -/
theorem cbcCommandsChainBlocks : Obligations.CbcCommandsChainBlocks := by
  refine ⟨fun s hp hl => ⟨_, exec_of_run hp hl, completes_commandBody .cbce s, ?_⟩,
    fun s hp hl => ⟨_, exec_of_run hp hl, completes_commandBody .cbcd s, ?_⟩⟩
  · obtain ⟨heks, -, hvalid, -⟩ := commandBody_keepsSchedules .cbce s
    obtain ⟨hout, hiv⟩ := cbcBody_chain (s := deriveEks s) cbcEncBlock_pass (cbcEncBlock_chainPass _ _) rfl rfl
      (blockRanges_of_latchValid rfl hl)
    rw [← commandBody_cbce] at hout hiv
    exact ⟨hout, hiv, heks, hvalid⟩
  · obtain ⟨-, hdks, -, hvalid⟩ := commandBody_keepsSchedules .cbcd s
    obtain ⟨hout, hiv⟩ := cbcBody_chain (s := deriveDks s) cbcDecBlock_pass (cbcDecBlock_chainPass _ _) rfl rfl
      (blockRanges_of_latchValid rfl hl)
    rw [← commandBody_cbcd] at hout hiv
    exact ⟨hout, hiv, hdks, hvalid⟩

seal expandKey expandDecKey encryptBlock decryptBlock in
/-- Settles O22: the common frame of the bodies, the schedule that each leaves as it was, and the blocks that the shared body
writes. -/
theorem cbcCommandsFrame : Obligations.CbcCommandsFrame := by
  intro i s t hi hp h
  obtain ⟨-, rfl⟩ := exec_run_next hp h
  have hsched := commandBody_keepsSchedules i s
  refine ⟨keepsControl_commandBody i s, completes_commandBody i s, commandBody_keepsHighIv i s, ?_⟩
  rcases hi with rfl | rfl
  · have hout := sameOutside_cbcBody cbcEncBlock_pass (deriveEks s)
    rw [← commandBody_cbce] at hout
    exact ⟨commandBody_cur s nofun, fun _ => ⟨hsched.dks, hsched.dksValid⟩, nofun, hout⟩
  · have hout := sameOutside_cbcBody cbcDecBlock_pass (deriveDks s)
    rw [← commandBody_cbcd] at hout
    exact ⟨commandBody_cur s nofun, nofun, fun _ => ⟨hsched.eks, hsched.eksValid⟩, hout⟩

end Sys2Proof.Machine
end

section
/-!
PROOFS. The counter of CTR as a number (42_ctr.md R220): a block is the 16 base-256 digits of a number below 2^128, most significant
first, and `Inc128` adds 1 to it.
-/

namespace Sys2Proof.Machine

/-! ### Bytes from the least significant one up, the order in which the loop of R220 visits them -/

/-- The number whose base-256 digits are `bs`, the least significant first. -/
def leValue (bs : List Byte) : Nat :=
  Nat.ofDigits 256 (bs.map BitVec.toNat)

theorem leValue_cons (b : Byte) (bs : List Byte) : leValue (b :: bs) = b.toNat + 256 * leValue bs :=
  Nat.ofDigits_cons

theorem leValue_lt (bs : List Byte) : leValue bs < 256 ^ bs.length := by
  rw [leValue, ← List.length_map (f := BitVec.toNat)]
  refine Nat.ofDigits_lt_base_pow_length (by decide) fun d hd => ?_
  obtain ⟨b, -, rfl⟩ := List.mem_map.mp hd
  exact b.isLt

theorem incBytes_length (bs : List Byte) : (incBytes bs).length = bs.length := by
  induction bs with
  | nil => rfl
  | cons b bs ih =>
    rw [incBytes]; split
    · rfl
    · exact congrArg (· + 1) ih

/-- The loop stops where the carry does; past the last byte the carry is lost. -/
theorem leValue_incBytes (bs : List Byte) : leValue (incBytes bs) = (leValue bs + 1) % 256 ^ bs.length := by
  induction bs with
  | nil => rfl
  | cons b bs ih =>
    have hlt := leValue_lt bs
    rw [incBytes, List.length_cons, Nat.pow_succ', leValue_cons]
    split
    · next h =>
      have hb : (b + 1).toNat = b.toNat + 1 := by bv_omega
      rw [leValue_cons, hb, Nat.mod_eq_of_lt (by omega)]; omega
    · next h =>
      have hb : b.toNat = 255 := by bv_omega
      have hz : (b + 1).toNat = 0 := by bv_omega
      have hsum : 255 + 256 * leValue bs + 1 = 256 * (leValue bs + 1) := by omega
      rw [leValue_cons, hz, ih, hb, hsum, Nat.mul_mod_mul_left, Nat.zero_add]

/-- Byte `i` of a number's bytes is its digit `i`. -/
theorem ofNat_leValue_div (bs : List Byte) (i : Nat) : BitVec.ofNat 8 (leValue bs / 256 ^ i) = bs.getD i 0 := by
  induction bs generalizing i with
  | nil => simp [leValue]
  | cons b bs ih =>
    rw [leValue_cons]
    cases i with
    | zero => apply BitVec.eq_of_toNat_eq; simpa using b.isLt
    | succ i =>
      have hdrop : (b.toNat + 256 * leValue bs) / 256 = leValue bs := by omega
      rw [Nat.pow_succ', ← Nat.div_div_eq_div_mul, hdrop, ih, List.getD_cons_succ]

/-- The `k` lowest digits of a number. -/
theorem leValue_digits (n k : Nat) :
    leValue ((List.range k).map fun i => BitVec.ofNat 8 (n / 256 ^ i)) = n % 256 ^ k := by
  induction k with
  | zero => simp [leValue, Nat.mod_one]
  | succ k ih =>
    rw [leValue] at ih ⊢
    rw [List.range_succ, List.map_append, List.map_append, Nat.ofDigits_append, ih, Nat.mod_pow_succ]
    simp [BitVec.toNat_ofNat]

/-! ### Blocks as numbers -/

theorem be128_eq_leValue (v : Block) : be128 v = leValue (blockBytes v).reverse := by
  rw [be128, leValue, Nat.ofDigits_eq_foldr, List.foldr_map, List.foldr_reverse]
  simp only [Nat.cast_id, Nat.mul_comm, Nat.add_comm]

theorem be128_block128 (n : Nat) : be128 (block128 n) = n % 2 ^ 128 :=
  (be128_eq_leValue _).trans (leValue_digits n 16)

theorem block128_be128 (v : Block) : block128 (be128 v) = v := by
  refine (blockOf_congr fun j hj => ?_).trans (blockOf_blockByte v)
  rw [be128_eq_leValue, ofNat_leValue_div]
  interval_cases j <;> rfl

theorem blockBytes_blockOf_getD {bs : List Byte} (h : bs.length = 16) : blockBytes (blockOf fun j => bs.getD j 0) = bs := by
  have hmap : blockBytes (blockOf fun j => bs.getD j 0) = (List.range 16).map fun j => bs.getD j 0 := rfl
  rw [hmap]
  refine List.ext_getElem (by simp [h]) fun j _ hj => ?_
  rw [List.getElem_map, List.getElem_range, List.getD_eq_getElem _ _ hj]

/-- Settles O53: the block's bytes, reversed, are the digits that the loop of R220 walks through. -/
theorem inc128AddsOne : Obligations.Inc128AddsOne := by
  intro v
  have hlen : (incBytes (blockBytes v).reverse).reverse.length = 16 := by
    rw [List.length_reverse, incBytes_length]; rfl
  rw [be128_eq_leValue, inc128, blockBytes_blockOf_getD hlen, List.reverse_reverse, leValue_incBytes, ← be128_eq_leValue,
    List.length_reverse, length_blockBytes, show 256 ^ 16 = 2 ^ 128 from rfl]

/-- A block is a number modulo 2^128. -/
theorem block128_mod (n : Nat) : block128 (n % 2 ^ 128) = block128 n := by
  rw [← be128_block128, block128_be128]

theorem inc128_block128 (n : Nat) : inc128 (block128 n) = block128 (n + 1) := by
  rw [← block128_be128 (inc128 _), inc128AddsOne, be128_block128, Nat.mod_add_mod, block128_mod]

end Sys2Proof.Machine
end

section
/-!
PROOFS. The command CTR (42_ctr.md R221 to R223): its operands, the loop over the data bytes, what its completion computes and
what it leaves unchanged.
-/

namespace Sys2Proof.Machine

/-! ### Operands -/

/-- The operands that validation of CTR lets pass (R265 to R268). -/
def CtrOperands (bytes src dst len cur : Nat) : Prop :=
  0 < len ∧ cur < 16 ∧ src + len ≤ bytes ∧ dst + len ≤ bytes ∧ (src = dst ∨ dst + len ≤ src ∨ src + len ≤ dst)

theorem validateOperands_ctr_eq_ok_iff (bytes src dst len cur : Nat) :
    validateOperands .ctr bytes src dst len cur = .ok ↔ CtrOperands bytes src dst len cur := by
  simp only [validateOperands, byteCount, isMode, movesData, true_and, ne_eq, not_true_eq_false, false_and, if_false]
  rw [CtrOperands]
  split_ifs <;> simp only [false_iff, true_iff] <;> omega

theorem latchValid_ctr_iff (s : State) :
    s.latchValid .ctr = true ↔
      CtrOperands s.cfg.dmemBytes s.latch.src.toNat s.latch.dst.toNat s.latch.n.toNat s.latch.cur.toNat := by
  rw [State.latchValid, beq_iff_eq, validateOperands_ctr_eq_ok_iff]

theorem validate_ctr_iff (s : State) :
    s.validate .ctr = .ok ↔ CtrOperands s.cfg.dmemBytes s.src.toNat s.dst.toNat s.len.toNat s.cur.toNat := by
  have hsched : validateSchedule .ctr s.eksValid s.dksValid = .ok := rfl
  rw [s.validate_eq_ok_iff, validateOperands_ctr_eq_ok_iff, and_iff_left hsched]

/-! ### One byte of the stream -/

/-- The counter at position `pos` of the stream that starts at counter `v0` (R223). -/
def ctrCounter (v0 pos : Nat) : Block :=
  block128 ((v0 + pos / 16) % 2 ^ 128)

theorem ctrStreamByte_eq (w : Schedule) (v0 pos : Nat) :
    ctrStreamByte w v0 pos = blockByte (encryptBlock (ctrCounter v0 pos) w) (pos % 16) := rfl

theorem inc128_ctrCounter {v0 pos : Nat} (h : pos % 16 + 1 = 16) : inc128 (ctrCounter v0 pos) = ctrCounter v0 (pos + 1) := by
  have hnext : v0 + pos / 16 + 1 = v0 + (pos + 1) / 16 := by omega
  rw [ctrCounter, block128_mod, inc128_block128, hnext, ctrCounter, block128_mod]

theorem ctrCounter_succ_of_lt {v0 pos : Nat} (h : pos % 16 + 1 ≠ 16) : ctrCounter v0 (pos + 1) = ctrCounter v0 pos := by
  have hsame : (pos + 1) / 16 = pos / 16 := by omega
  rw [ctrCounter, hsame, ctrCounter]

/-- One pass of the loop of R222: data byte `i` with cursor `c`, and the next keystream block after the last byte of one. -/
def ctrPass (i c : Nat) (s : State) : State :=
  if c + 1 = 16 then ctrRefill (ctrByte i c s) else ctrByte i c s

theorem ctrLoop_succ (n i pos : Nat) (s : State) :
    ctrLoop (n + 1) i (pos % 16) s = ctrLoop n (i + 1) ((pos + 1) % 16) (ctrPass i (pos % 16) s) := by
  rw [ctrLoop, ctrPass]
  split
  · next h => rw [show (pos + 1) % 16 = 0 by omega]
  · next h => rw [show (pos + 1) % 16 = pos % 16 + 1 by omega]

theorem ctrPass_dataOnly (i c : Nat) (s : State) : DataOnly s (ctrPass i c s) := by
  rw [ctrPass]; split
  · exact (ctrByte_dataOnly i c s).trans (ctrRefill_dataOnly _)
  · exact ctrByte_dataOnly i c s

/-- A pass writes one byte of DMEM. -/
theorem readByte_ctrPass (i c : Nat) (s : State) (x : Nat) :
    (ctrPass i c s).readByte x =
      if x = s.latch.dst.toNat + i ∧ x < s.cfg.dmemBytes then
        s.readByte (s.latch.src.toNat + i) ^^^ blockByte s.work.ks c
      else s.readByte x := by
  rw [← State.readByte_writeByte, ← ctrByte, ctrPass]
  split <;> rfl

/-- The working registers hold the counter and the keystream block of stream position `pos`. -/
def CtrReady (v0 pos : Nat) (s : State) : Prop :=
  s.work.cv = ctrCounter v0 pos ∧ s.work.ks = encryptBlock (ctrCounter v0 pos) s.eks

seal encryptBlock in
theorem ctrReady_ctrInit (s : State) {c : Nat} (hc : c < 16) :
    CtrReady (be128 s.latch.iv.lo) c (ctrInit s) := by
  have hcounter : ctrCounter (be128 s.latch.iv.lo) c = s.latch.iv.lo := by
    rw [ctrCounter, block128_mod, Nat.div_eq_of_lt hc, Nat.add_zero, block128_be128]
  rw [CtrReady, hcounter]
  exact ⟨rfl, rfl⟩

seal encryptBlock in
theorem ctrReady_ctrPass {v0 pos : Nat} {s : State} (i : Nat) (h : CtrReady v0 pos s) :
    CtrReady v0 (pos + 1) (ctrPass i (pos % 16) s) := by
  obtain ⟨hcv, hks⟩ := h
  rw [ctrPass]; split
  · next hlast =>
    rw [CtrReady, ← inc128_ctrCounter hlast, ← hcv]
    exact ⟨rfl, rfl⟩
  · next hmid =>
    rw [CtrReady, ctrCounter_succ_of_lt hmid]
    exact ⟨hcv, hks⟩

/-! ### The loop over the bytes -/

/-- The counter and the cursor after `n` bytes are those of `n` stream positions further on. -/
theorem ctrLoop_registers {v0 pos : Nat} {s : State} (n i : Nat) (h : CtrReady v0 pos s) :
    (ctrLoop n i (pos % 16) s).iv = setLow16 s.iv (ctrCounter v0 (pos + n)) ∧
      (ctrLoop n i (pos % 16) s).cur = BitVec.ofNat 8 ((pos + n) % 16) := by
  induction n generalizing i pos s with
  | zero => exact ⟨congrArg (setLow16 s.iv) h.1, rfl⟩
  | succ n ih =>
    have hnext := ih (i + 1) (ctrReady_ctrPass i h)
    rw [(ctrPass_dataOnly _ _ _).iv_eq, Nat.add_right_comm] at hnext
    rw [ctrLoop_succ]
    exact hnext

/-- Each byte that the loop writes is its input byte as it was before the loop (R97), under the stream byte of its position. -/
theorem readByte_ctrLoop {v0 c0 n i j : Nat} {s : State} (hready : CtrReady v0 (c0 + i) s)
    (hops : CtrOperands s.cfg.dmemBytes s.latch.src.toNat s.latch.dst.toNat s.latch.n.toNat s.latch.cur.toNat)
    (hn : i + n = s.latch.n.toNat) (hij : i ≤ j) (hj : j < i + n) :
    (ctrLoop n i ((c0 + i) % 16) s).readByte (s.latch.dst.toNat + j) =
      s.readByte (s.latch.src.toNat + j) ^^^ ctrStreamByte s.eks v0 (c0 + j) := by
  obtain ⟨-, -, -, hdst, hapart⟩ := hops
  induction n generalizing i s with
  | zero => omega
  | succ n ih =>
    have hdata := ctrPass_dataOnly i ((c0 + i) % 16) s
    rw [ctrLoop_succ]
    rcases Nat.eq_or_lt_of_le hij with rfl | hlt
    · rw [ctrLoop_outside _ _ _ _ (by rw [hdata.latch_eq]; omega), readByte_ctrPass, if_pos (by omega), hready.2,
        ctrStreamByte_eq]
    · have hnext := ih (s := ctrPass i ((c0 + i) % 16) s) (i := i + 1) (ctrReady_ctrPass i hready)
      rw [hdata.latch_eq, hdata.eks_eq, hdata.cfg_eq, readByte_ctrPass, if_neg (by omega)] at hnext
      exact hnext (by omega) hlt (by omega) hdst hapart

/-! ### The command -/

theorem commandBody_ctr (s : State) :
    commandBody .ctr s = ctrLoop s.latch.n.toNat 0 s.latch.cur.toNat (ctrInit (deriveEks s)) := rfl

seal expandKey encryptBlock in
/-- Settles O17: the loop starts with the keystream block of `IV_L`, at position `CUR_L` of the stream. -/
theorem ctrClosedForm : Obligations.CtrClosedForm := by
  intro s hp hl
  have hops := (latchValid_ctr_iff s).mp hl
  have hcur : s.latch.cur.toNat < 16 := hops.2.1
  have hready := ctrReady_ctrInit (deriveEks s) hcur
  obtain ⟨heks, -, hvalid, -⟩ := commandBody_keepsSchedules .ctr s
  obtain ⟨hiv, hc⟩ := ctrLoop_registers s.latch.n.toNat 0 hready
  rw [Nat.mod_eq_of_lt hcur, ← commandBody_ctr] at hiv hc
  refine ⟨_, exec_of_run hp hl, completes_commandBody .ctr s, fun j hj => ?_, ?_, ?_, heks, hvalid⟩
  · have hout := readByte_ctrLoop (c0 := s.latch.cur.toNat) (i := 0) hready hops (Nat.zero_add _) j.zero_le
      (hj.trans_eq (Nat.zero_add _).symm)
    rw [Nat.add_zero, Nat.mod_eq_of_lt hcur] at hout
    exact hout
  · rw [State.complete_cur, hc, BitVec.toNat_ofNat]; omega
  · rw [State.complete_iv, hiv, registerBytes_setLow16]; rfl

seal expandKey encryptBlock in
/-- Settles O23: the common frame of the bodies, and the bytes that the loop writes. -/
theorem ctrCommandFrame : Obligations.CtrCommandFrame := by
  intro s t hp h
  obtain ⟨-, rfl⟩ := exec_run_next hp h
  obtain ⟨-, hdks, -, hvalid⟩ := commandBody_keepsSchedules .ctr s
  exact ⟨keepsControl_commandBody .ctr s, completes_commandBody .ctr s, commandBody_keepsHighIv .ctr s, hdks, hvalid,
    fun x hx => ctrLoop_outside s.latch.n.toNat 0 s.latch.cur.toNat (ctrInit (deriveEks s)) hx⟩

end Sys2Proof.Machine
end

section
/-!
PROOFS. Laws of CTR across commands (42_ctr.md R224, R225), from its closed form: a stream may be split over two commands, and a
second pass over the output gives back the data.
-/

namespace Sys2Proof.Machine

/-! ### A stretch of the stream -/

/-- From `s` to `t` the `n` bytes at `src` have gone to `dst` under the stream bytes from position `c0` on, and no other byte has
changed (R223). -/
def CtrBytes (w : Schedule) (v0 c0 src dst n : Nat) (s t : State) : Prop :=
  (∀ j, j < n → t.readByte (dst + j) = s.readByte (src + j) ^^^ ctrStreamByte w v0 (c0 + j)) ∧ SameOutside dst n s t

/-- `CtrBytes` leaves no byte of DMEM open. -/
theorem readByte_eq_of_ctrBytes {w : Schedule} {v0 c0 src dst n : Nat} {s t u : State}
    (ht : CtrBytes w v0 c0 src dst n s t) (hu : CtrBytes w v0 c0 src dst n s u) (x : Nat) : t.readByte x = u.readByte x := by
  obtain ⟨htin, htout⟩ := ht
  obtain ⟨huin, huout⟩ := hu
  by_cases hx : dst ≤ x ∧ x < dst + n
  · obtain ⟨j, rfl⟩ := Nat.exists_eq_add_of_le hx.1
    rw [htin j (by omega), huin j (by omega)]
  · rw [htout x hx, huout x hx]

/-- The counter and the cursor at position `pos` are a place to go on from. -/
theorem ctrCounter_resume (v0 pos n : Nat) : ctrCounter (be128 (ctrCounter v0 pos)) (pos % 16 + n) = ctrCounter v0 (pos + n) := by
  have hpos : v0 + pos / 16 + (pos % 16 + n) / 16 = v0 + (pos + n) / 16 := by omega
  rw [ctrCounter, ctrCounter, be128_block128, Nat.mod_mod, Nat.mod_add_mod, hpos, ctrCounter]

theorem ctrStreamByte_resume (w : Schedule) (v0 pos j : Nat) :
    ctrStreamByte w (be128 (ctrCounter v0 pos)) (pos % 16 + j) = ctrStreamByte w v0 (pos + j) := by
  rw [ctrStreamByte_eq, ctrStreamByte_eq, ctrCounter_resume, Nat.mod_add_mod]

/-- Two stretches, the second one where the first one ends, are one: the first does not write what the second reads. -/
theorem ctrBytes_append {w : Schedule} {v0 c0 src dst n m : Nat} {s t u : State}
    (hapart : src = dst ∨ dst + (n + m) ≤ src ∨ src + (n + m) ≤ dst) (ht : CtrBytes w v0 c0 src dst n s t)
    (hu : CtrBytes w (be128 (ctrCounter v0 (c0 + n))) ((c0 + n) % 16) (src + n) (dst + n) m t u) :
    CtrBytes w v0 c0 src dst (n + m) s u := by
  obtain ⟨htin, htout⟩ := ht
  obtain ⟨huin, huout⟩ := hu
  refine ⟨fun j hj => ?_, fun x hx => by rw [huout x (by omega), htout x (by omega)]⟩
  rcases Nat.lt_or_ge j n with hlt | hge
  · rw [huout _ (by omega), htin j hlt]
  · obtain ⟨k, rfl⟩ := Nat.exists_eq_add_of_le hge
    rw [← Nat.add_assoc, huin k (by omega), ctrStreamByte_resume, htout _ (by omega)]
    simp only [Nat.add_assoc]

/-- A stretch under the same stream bytes, over the output of a first one, gives back the data (R225). -/
theorem readByte_of_ctrBytes_ctrBytes {w : Schedule} {v0 c0 src dst e n j : Nat} {s t u : State}
    (ht : CtrBytes w v0 c0 src dst n s t) (hu : CtrBytes w v0 c0 dst e n t u) (hj : j < n) :
    u.readByte (e + j) = s.readByte (src + j) := by
  rw [hu.1 j hj, ht.1 j hj, BitVec.xor_assoc, BitVec.xor_self, BitVec.xor_zero]

/-! ### One command, from acceptance to completion -/

/-- `t` holds what CTR computes from the registers and the data of `s` (R223). -/
structure CtrEnd (s t : State) : Prop where
  bytes : CtrBytes (expandKey (registerBytes s.key)) (be128 (registerBytes s.iv).lo) s.cur.toNat s.src.toNat s.dst.toNat
    s.len.toNat s t
  cur : t.cur.toNat = (s.cur.toNat + s.len.toNat) % 16
  iv : registerBytes t.iv =
    { lo := ctrCounter (be128 (registerBytes s.iv).lo) (s.cur.toNat + s.len.toNat), hi := (registerBytes s.iv).hi }

seal expandKey encryptBlock in
/-- A CTR that passes validation runs to its end: acceptance latches the registers, and completion has the closed form. -/
theorem exists_runs_ctr {s : State} (hv : s.validate .ctr = .ok) (hp : s.phase = .idle) :
    ∃ t, Runs .ctr s t ∧ t.phase = .idle ∧ KeepsControl s t ∧ CtrEnd s t := by
  have hacc := (exec_of_idle (i := .ctr) hp).trans (congrArg Host.Outcome.next (accept_of_valid hv))
  have hn : (s.clearCompletion.operands .ctr (byteCount .ctr s.len.toNat)).n.toNat = s.len.toNat :=
    Nat.mod_eq_of_lt s.len.isLt
  obtain ⟨t, hrun, ⟨hidle, -, -⟩, hin, hcur, hiv, -⟩ := ctrClosedForm _ (State.start_phase _ _ _) (latchValid_start hv)
  obtain ⟨hkeeps, -, -, -, -, hout⟩ := ctrCommandFrame _ t (State.start_phase _ _ _) hrun
  rw [State.start_latch, hn] at hin hcur hiv hout
  exact ⟨t, ⟨_, hacc, rfl, hrun⟩, hidle, hkeeps, ⟨hin, hout⟩, hcur, hiv⟩

theorem registerBytes_injective : Function.Injective registerBytes := by
  intro r r' h
  have hword : Function.Injective bytes32 := Function.LeftInverse.injective be32_bytes32
  simp only [registerBytes, Bytes32.mk.injEq, Block.mk.injEq, hword.eq_iff] at h
  obtain ⟨⟨h0, h1, h2, h3⟩, h4, h5, h6, h7⟩ := h
  ext1 i hi
  interval_cases i <;> assumption

theorem ctrEnd_unique {s t u : State} (ht : CtrEnd s t) (hu : CtrEnd s u) :
    (∀ x, t.readByte x = u.readByte x) ∧ t.iv = u.iv ∧ t.cur = u.cur :=
  ⟨readByte_eq_of_ctrBytes ht.bytes hu.bytes, registerBytes_injective (ht.iv.trans hu.iv.symm),
    BitVec.eq_of_toNat_eq (ht.cur.trans hu.cur.symm)⟩

/-- Settles O60: the second command has the same key, counter and cursor, so it takes the same stream bytes away. -/
theorem ctrIsAnInvolution : Obligations.CtrIsAnInvolution := by
  intro s e hp hv hv'
  obtain ⟨t, hrun, hidle, ⟨hcfg, -, -, -, -, -, hlen, hkey, -⟩, hend⟩ := exists_runs_ctr hv hp
  have hvt : ({ t with src := s.dst, dst := e, iv := s.iv, cur := s.cur } : State).validate .ctr = .ok := by
    rw [validate_ctr_iff] at hv' ⊢
    rw [hcfg, hlen]
    exact hv'
  obtain ⟨u, hrun', -, -, hend'⟩ := exists_runs_ctr hvt hidle
  have hbytes := hend'.bytes
  rw [hlen, hkey] at hbytes
  exact ⟨t, u, hrun, hrun', fun j hj => readByte_of_ctrBytes_ctrBytes hend.bytes hbytes hj⟩

/-! ### A stream over two commands -/

theorem ctrOperands_take {bytes src dst len cur p : Nat} (h : CtrOperands bytes src dst len cur) (h0 : 0 < p)
    (hlt : p < len) : CtrOperands bytes src dst p cur := by
  rw [CtrOperands] at *; omega

theorem ctrOperands_drop {bytes src dst len cur p c : Nat} (h : CtrOperands bytes src dst len cur) (hlt : p < len)
    (hc : c < 16) : CtrOperands bytes (src + p) (dst + p) (len - p) c := by
  rw [CtrOperands] at *; omega

/-- The host starts CTR over the first `p` bytes only. -/
def State.ctrTake (s : State) (p : Nat) : State :=
  { s with len := BitVec.ofNat 32 p }

/-- After the command over the first `p` bytes has left `t`, the host goes on with the other bytes. -/
def State.ctrDrop (s t : State) (p : Nat) : State :=
  { t with src := s.src + BitVec.ofNat 32 p, dst := s.dst + BitVec.ofNat 32 p, len := s.len - BitVec.ofNat 32 p }

section
variable (s t : State) (p : Nat)

@[simp] theorem State.ctrTake_cur : (s.ctrTake p).cur = s.cur := rfl
@[simp] theorem State.ctrTake_key : (s.ctrTake p).key = s.key := rfl
@[simp] theorem State.ctrTake_iv : (s.ctrTake p).iv = s.iv := rfl
@[simp] theorem State.ctrTake_src : (s.ctrTake p).src = s.src := rfl
@[simp] theorem State.ctrTake_dst : (s.ctrTake p).dst = s.dst := rfl
@[simp] theorem State.ctrDrop_cfg : (s.ctrDrop t p).cfg = t.cfg := rfl
@[simp] theorem State.ctrDrop_cur : (s.ctrDrop t p).cur = t.cur := rfl
@[simp] theorem State.ctrDrop_key : (s.ctrDrop t p).key = t.key := rfl
@[simp] theorem State.ctrDrop_iv : (s.ctrDrop t p).iv = t.iv := rfl

end

section
variable {s t u : State} {p : Nat} (hc : s.cfg.legal) (hv : s.validate .ctr = .ok) (hlt : p < s.len.toNat)

include hlt in
theorem ctrTake_len_toNat : (s.ctrTake p).len.toNat = p :=
  Nat.mod_eq_of_lt (hlt.trans s.len.isLt)

include hv hlt

theorem validate_ctrTake (h0 : 0 < p) : (s.ctrTake p).validate .ctr = .ok := by
  rw [validate_ctr_iff] at hv ⊢
  rw [ctrTake_len_toNat hlt]
  exact ctrOperands_take hv h0 hlt

include hc

/-- DMEM is at most 64 KiB (R8), so the addresses of the second command do not wrap. -/
theorem ctrDrop_toNat :
    (s.ctrDrop t p).src.toNat = s.src.toNat + p ∧ (s.ctrDrop t p).dst.toNat = s.dst.toNat + p ∧
      (s.ctrDrop t p).len.toNat = s.len.toNat - p := by
  obtain ⟨-, -, h65536, -⟩ := hc
  obtain ⟨-, -, hsrc, hdst, -⟩ := (validate_ctr_iff s).mp hv
  simp only [State.ctrDrop, BitVec.toNat_add, BitVec.toNat_sub, BitVec.toNat_ofNat]
  omega

theorem validate_ctrDrop (hcfg : t.cfg = s.cfg) (hcur : t.cur.toNat < 16) : (s.ctrDrop t p).validate .ctr = .ok := by
  obtain ⟨hsrc, hdst, hlen⟩ := ctrDrop_toNat (t := t) hc hv hlt
  rw [validate_ctr_iff] at hv ⊢
  rw [hsrc, hdst, hlen, State.ctrDrop_cfg, hcfg, State.ctrDrop_cur]
  exact ctrOperands_drop hv hlt hcur

/-- The second command ends where one command over the whole would. -/
theorem ctrEnd_of_ctrTake_ctrDrop (hkey : t.key = s.key) (ht : CtrEnd (s.ctrTake p) t)
    (hu : CtrEnd (s.ctrDrop t p) u) : CtrEnd s u := by
  obtain ⟨-, -, -, -, hapart⟩ := (validate_ctr_iff s).mp hv
  obtain ⟨hsrc, hdst, hlen⟩ := ctrDrop_toNat (t := t) hc hv hlt
  have hsum : p + (s.len.toNat - p) = s.len.toNat := Nat.add_sub_of_le hlt.le
  obtain ⟨tbytes, tcur, tiv⟩ := ht
  obtain ⟨ubytes, ucur, uiv⟩ := hu
  rw [ctrTake_len_toNat hlt] at tbytes tcur tiv
  simp only [hsrc, hdst, hlen, State.ctrDrop_cur, State.ctrDrop_key, State.ctrDrop_iv, tcur, tiv, hkey] at ubytes ucur uiv
  refine ⟨?_, ?_, ?_⟩
  · rw [← hsum] at hapart ⊢
    exact ctrBytes_append hapart tbytes ubytes
  · rw [ucur, Nat.mod_add_mod, Nat.add_assoc, State.ctrTake_cur, hsum]
  · rw [uiv, ctrCounter_resume, Nat.add_assoc, State.ctrTake_cur, State.ctrTake_iv, hsum]

end

/-- Settles O59: the second command takes up the counter, the cursor and the data where the first one left them. -/
theorem ctrIsResumable : Obligations.CtrIsResumable := by
  intro s p hc hp hv h0 hlt
  obtain ⟨whole, hrun, -, -, hend⟩ := exists_runs_ctr hv hp
  obtain ⟨first, hrun₁, hidle, ⟨hcfg, -, -, -, -, -, -, hkey, -⟩, hend₁⟩ :=
    exists_runs_ctr (validate_ctrTake hv hlt h0) hp
  have hcur : first.cur.toNat < 16 := hend₁.cur ▸ Nat.mod_lt _ (by decide)
  obtain ⟨second, hrun₂, -, -, hend₂⟩ := exists_runs_ctr (validate_ctrDrop hc hv hlt hcfg hcur) hidle
  exact ⟨whole, first, second, hrun, hrun₁, hrun₂,
    ctrEnd_unique (ctrEnd_of_ctrTake_ctrDrop hc hv hlt hkey hend₁ hend₂) hend⟩

end Sys2Proof.Machine
end

section
/-!
PROOFS. The IGE chain as a function on lists of blocks (43_ige.md R240, R244): its split over two parts, and its inverse, the chain
under the inverse transform with the halves of the IV swapped.
-/

namespace Sys2Proof.Machine

/-! ### Two parts -/

/-- Settles O58, by induction on the blocks of the first part: `X` and `Y` are the last output block and the last input block. -/
theorem igeSplitsAtBlocks : Obligations.IgeSplitsAtBlocks := by
  intro f x y d₁ d₂
  induction d₁ generalizing x y with
  | nil => rfl
  | cons b bs ih => rw [List.cons_append, igeChain, ih, igeChain, List.cons_append, lastBlock_cons, lastBlock_cons]

/-- The output block for one more input block. -/
theorem igeChain_concat (f : Block → Block) (x y : Block) (ps : List Block) (b : Block) :
    igeChain f x y (ps ++ [b]) =
      igeChain f x y ps ++ [xorBlock (f (xorBlock b (lastBlock x (igeChain f x y ps)))) (lastBlock y ps)] :=
  igeSplitsAtBlocks f x y ps [b]

/-! ### Round trip -/

/-- The chain under a left inverse of the transform, with `X` and `Y` swapped, undoes the chain: it takes both exclusive ors of a
block away again, and its `X` and `Y` stay the other chain's `Y` and `X`. -/
theorem igeChain_igeChain_of_leftInverse {f g : Block → Block} (h : Function.LeftInverse g f) (x y : Block)
    (d : List Block) : igeChain g y x (igeChain f x y d) = d := by
  induction d generalizing x y with
  | nil => rfl
  | cons b bs ih =>
    have hblock : xorBlock (g (xorBlock (xorBlock (f (xorBlock b x)) y) y)) x = b := by
      rw [xorBlock_xorBlock_cancel_right, h, xorBlock_xorBlock_cancel_right]
    rw [igeChain, igeChain, hblock, ih]

theorem decryptBlock_leftInverse (k : Bytes32) :
    Function.LeftInverse (fun b => decryptBlock b (expandDecKey k)) fun b => encryptBlock b (expandKey k) :=
  fun b => (decryptInvertsEncrypt k b).1

/-- Settles O57: the decryptor is a left inverse of the encryptor. -/
theorem igeRoundTrip : Obligations.IgeRoundTrip := fun k iv d =>
  igeChain_igeChain_of_leftInverse (decryptBlock_leftInverse k) iv.lo iv.hi d

end Sys2Proof.Machine
end

section
/-!
PROOFS. The commands IGEE and IGED (43_ige.md R240 to R243): what their completion computes, and what it leaves unchanged.
-/

namespace Sys2Proof.Machine

/-! ### One block of the chain -/

/-- From `s` on, `transform` leaves `f` of its block in the AES state and changes the working registers only. -/
def TransformsBy (f : Block → Block) (s : State) (transform : State → Block → State) : Prop :=
  ∀ t b, DataOnly s t → ∃ wk : Work, transform t b = t.setWork wk ∧ wk.s = f b

seal encryptBlock in
theorem encryptInto_transformsBy (s : State) : TransformsBy (fun b => encryptBlock b s.eks) s State.encryptInto :=
  fun _ b ht => ⟨_, rfl, congrArg (encryptBlock b) ht.eks_eq⟩

seal decryptBlock in
theorem decryptInto_transformsBy (s : State) : TransformsBy (fun b => decryptBlock b s.dks) s State.decryptInto :=
  fun _ b ht => ⟨_, rfl, congrArg (decryptBlock b) ht.dks_eq⟩

/-- The output block of the pass over block `BI`. -/
def igeOut (f : Block → Block) (s : State) : Block :=
  xorBlock (f (xorBlock s.blockIn s.work.x)) s.work.y

/-- `X` holds the last output block and `Y` the last input block of the chain over the input blocks `ps`, or what they started as
while there is none. -/
def IgeLink (f : Block → Block) (x y : Block) (ps : List Block) (wk : Work) : Prop :=
  wk.x = lastBlock x (igeChain f x y ps) ∧ wk.y = lastBlock y ps

section
variable {f : Block → Block} {s : State} {transform : State → Block → State} (htr : TransformsBy f s transform)
include htr

/-- A pass writes its output block, and keeps it in `X` and its input block in `Y` (R240). -/
theorem exists_igeBlock_eq {t : State} (ht : DataOnly s t) :
    ∃ wk : Work, igeBlock transform t =
      ((t.setWork wk).writeBlock t.blockOutAt (igeOut f t)).setWork
        { wk with x := igeOut f t, y := t.blockIn, bi := t.work.bi + 1 } := by
  obtain ⟨wk, hset, hs⟩ := htr t (xorBlock t.blockIn t.work.x) ht
  refine ⟨wk, ?_⟩
  rw [igeOut, ← hs, igeBlock, ← State.blockIn, ← State.blockOutAt, hset]
  rfl

/-- A pass carries the chain on. -/
theorem igeBlock_chainPass (x y : Block) : ChainPass (igeChain f x y) (IgeLink f x y) s (igeBlock transform) := by
  rintro t ps ht ⟨hx, hy⟩ hin
  have hnext : igeChain f x y (ps ++ [t.blockIn]) = igeChain f x y ps ++ [igeOut f t] := by
    rw [igeChain_concat, ← hx, ← hy, igeOut]
  obtain ⟨wk, hpass⟩ := exists_igeBlock_eq htr ht
  rw [IgeLink, hnext, lastBlock_concat, lastBlock_concat, hpass]
  have hread := State.readBlock_writeBlock_self (t.setWork wk) (igeOut f t) hin
  exact ⟨congrArg (fun b => igeChain f x y ps ++ [b]) hread.symm, rfl, rfl⟩

end

/-! ### The two bodies -/

@[simp] theorem igeInit_latch (x y : Block) (s : State) : (igeInit x y s).latch = s.latch := rfl

/-- What the bodies of IGEE and IGED share: a pass for each block, from `x` and `y` on (R241, R242). -/
def igeBody (transform : State → Block → State) (x y : Block) (s : State) : State :=
  repeatBody (igeBlock transform) (s.latch.n.toNat / 16) (igeInit x y s)

theorem commandBody_igee (s : State) :
    commandBody .igee s = igeBody State.encryptInto s.latch.iv.lo s.latch.iv.hi (deriveEks s) := rfl

theorem commandBody_iged (s : State) :
    commandBody .iged s = igeBody State.decryptInto s.latch.iv.hi s.latch.iv.lo (deriveDks s) := rfl

section
variable {transform : State → Block → State} (hb : ∀ t, BlockPass t (igeBlock transform t)) (x y : Block)
include hb

/-- The body writes the chain's outputs. -/
theorem blocksAt_igeBody {f : Block → Block} {s : State} (htr : TransformsBy f (igeInit x y s) transform)
    (hr : BlockRanges s (s.latch.n.toNat / 16)) :
    (igeBody transform x y s).blocksAt s.latch.dst.toNat (s.latch.n.toNat / 16) =
      igeChain f x y (s.blocksAt s.latch.src.toNat (s.latch.n.toNat / 16)) :=
  (repeatBody_chain (s := igeInit x y s) hb (igeBlock_chainPass htr x y) rfl rfl ⟨rfl, rfl⟩ hr le_rfl).1

/-- The body leaves every byte outside the destination alone. -/
theorem sameOutside_igeBody (s : State) : SameOutside s.latch.dst.toNat s.latch.n.toNat s (igeBody transform x y s) := by
  obtain ⟨-, -, hout⟩ := repeatBody_pass hb (s.latch.n.toNat / 16) (s := igeInit x y s) rfl
  rw [igeInit_latch] at hout
  exact fun a ha => hout a (by omega)

end

/-! ### The commands -/

theorem commandBody_ige_iv {i : Instr} (s : State) (hi : i = .igee ∨ i = .iged) : (commandBody i s).iv = s.iv :=
  commandBody_iv s (by rcases hi with rfl | rfl <;> decide)

seal expandKey expandDecKey encryptBlock decryptBlock in
/-- Settles O18: each body is the shared one with its own transform, whose passes carry the chain on; validation gives the ranges
that the loop needs. -/
theorem igeCommandsChainBlocks : Obligations.IgeCommandsChainBlocks := by
  refine ⟨fun s hp hl => ⟨_, exec_of_run hp hl, completes_commandBody .igee s, ?_⟩,
    fun s hp hl => ⟨_, exec_of_run hp hl, completes_commandBody .iged s, ?_⟩⟩
  · obtain ⟨heks, -, hvalid, -⟩ := commandBody_keepsSchedules .igee s
    have hout := blocksAt_igeBody (s := deriveEks s) igeEncBlock_pass s.latch.iv.lo s.latch.iv.hi
      (encryptInto_transformsBy _) (blockRanges_of_latchValid rfl hl)
    rw [← commandBody_igee] at hout
    exact ⟨hout, commandBody_ige_iv s (.inl rfl), heks, hvalid⟩
  · obtain ⟨-, hdks, -, hvalid⟩ := commandBody_keepsSchedules .iged s
    have hout := blocksAt_igeBody (s := deriveDks s) igeDecBlock_pass s.latch.iv.hi s.latch.iv.lo
      (decryptInto_transformsBy _) (blockRanges_of_latchValid rfl hl)
    rw [← commandBody_iged] at hout
    exact ⟨hout, commandBody_ige_iv s (.inr rfl), hdks, hvalid⟩

seal expandKey expandDecKey encryptBlock decryptBlock in
/-- Settles O24: the common frame of the bodies, the schedule that each leaves as it was, and the blocks that the shared body
writes. -/
theorem igeCommandsFrame : Obligations.IgeCommandsFrame := by
  intro i s t hi hp h
  obtain ⟨-, rfl⟩ := exec_run_next hp h
  have hsched := commandBody_keepsSchedules i s
  refine ⟨keepsControl_commandBody i s, completes_commandBody i s, commandBody_ige_iv s hi, ?_⟩
  rcases hi with rfl | rfl
  · have hout := sameOutside_igeBody igeEncBlock_pass s.latch.iv.lo s.latch.iv.hi (deriveEks s)
    rw [← commandBody_igee] at hout
    exact ⟨commandBody_cur s nofun, fun _ => ⟨hsched.dks, hsched.dksValid⟩, nofun, hout⟩
  · have hout := sameOutside_igeBody igeDecBlock_pass s.latch.iv.hi s.latch.iv.lo (deriveDks s)
    rw [← commandBody_iged] at hout
    exact ⟨commandBody_cur s nofun, nofun, fun _ => ⟨hsched.eks, hsched.eksValid⟩, hout⟩

end Sys2Proof.Machine
end

section
/-!
PROOFS. Validation (60_exceptions.md R263 to R272): the verdict is the first check that fails, read off for each error code, and a
command word that fails changes `ERR` and `DONE` only.
-/

namespace Sys2Proof.Machine

/-! ### The checks of `Validate`, one by one -/

/-- A mode command without data, or in CBC and IGE with data that is no whole number of blocks (R265). -/
def lengthFails (i : Instr) (s : State) : Bool :=
  decide (isMode i = true ∧ s.len.toNat = 0 ∨ isMode i = true ∧ i ≠ .ctr ∧ s.len.toNat % 16 ≠ 0)

/-- CTR with a cursor beyond its keystream block (R266). -/
def cursorFails (i : Instr) (s : State) : Bool :=
  decide (i = .ctr ∧ 16 ≤ s.cur.toNat)

/-- One of the command's ranges ends beyond DMEM (R267). -/
def rangeFails (i : Instr) (s : State) : Bool :=
  decide (movesData i = true ∧ (s.cfg.dmemBytes < s.src.toNat + byteCount i s.len.toNat ∨
    s.cfg.dmemBytes < s.dst.toNat + byteCount i s.len.toNat))

/-- The command's ranges meet without being identical (R268). -/
def overlapFails (i : Instr) (s : State) : Bool :=
  decide (movesData i = true ∧ s.src.toNat ≠ s.dst.toNat ∧ s.src.toNat < s.dst.toNat + byteCount i s.len.toNat ∧
    s.dst.toNat < s.src.toNat + byteCount i s.len.toNat)

/-- ENCB or DECB without its schedule (R269). -/
def scheduleFails (i : Instr) (s : State) : Bool :=
  decide (i = .encb ∧ s.eksValid = false ∨ i = .decb ∧ s.dksValid = false)

/-- `Validate` names the first check that fails (R263, R271). -/
theorem validate_eq_first_failing (i : Instr) (s : State) :
    s.validate i =
      if lengthFails i s then .invalidLength
      else if cursorFails i s then .invalidState
      else if rangeFails i s then .range
      else if overlapFails i s then .overlap
      else if scheduleFails i s then .noSchedule
      else .ok := by
  simp only [lengthFails, cursorFails, rangeFails, overlapFails, scheduleFails, decide_eq_true_eq, ite_or]
  rw [State.validate, validateOperands, validateSchedule]
  split_ifs <;> rfl

/-- What the checks say when the verdict is `e`. -/
def FirstFailing (i : Instr) (s : State) : ErrCode → Prop
  | .invalidLength => lengthFails i s
  | .invalidState => ¬ lengthFails i s ∧ cursorFails i s
  | .illegalCmd => False
  | .range => ¬ lengthFails i s ∧ ¬ cursorFails i s ∧ rangeFails i s
  | .overlap => ¬ lengthFails i s ∧ ¬ cursorFails i s ∧ ¬ rangeFails i s ∧ overlapFails i s
  | .noSchedule =>
    ¬ lengthFails i s ∧ ¬ cursorFails i s ∧ ¬ rangeFails i s ∧ ¬ overlapFails i s ∧ scheduleFails i s
  | .ok => ¬ lengthFails i s ∧ ¬ cursorFails i s ∧ ¬ rangeFails i s ∧ ¬ overlapFails i s ∧ ¬ scheduleFails i s

theorem validate_eq_iff_firstFailing (i : Instr) (s : State) (e : ErrCode) : s.validate i = e ↔ FirstFailing i s e := by
  rw [validate_eq_first_failing]
  cases e <;> split_ifs <;> simp [FirstFailing, *]

/-! ### Which commands a check looks at -/

theorem movesData_iff (i : Instr) : movesData i = true ↔ i ≠ .kse ∧ i ≠ .ksd := by
  cases i <;> decide

/-- The byte count of a command that moves data (R111, R267). -/
theorem byteCount_of_movesData {i : Instr} (h : movesData i = true) (len : Nat) :
    byteCount i len = if i = .encb ∨ i = .decb then 16 else len := by
  cases i <;> simp_all [movesData, byteCount]

/-! ### Error completion -/

/-- Settles O7: acceptance clears no more than what error completion writes. -/
theorem failedCommandChangesOnlyStatus : Obligations.FailedCommandChangesOnlyStatus := by
  refine ⟨fun i s hp hv => ?_, fun v s hv => ?_⟩
  · rw [exec_of_idle hp, accept_of_invalid hv]; rfl
  · rcases submit_cases s v with ⟨i, hd, -⟩ | ⟨-, -, e⟩
    · exact absurd ((decode_eq_ok_iff_eq_encode v i).mp hd) (hv i)
    · exact e

/-! ### The length and the cursor -/

theorem lengthFails_iff (i : Instr) (s : State) :
    lengthFails i s = true ↔
      (i = .ctr ∧ s.len = 0) ∨
        ((i = .cbce ∨ i = .cbcd ∨ i = .igee ∨ i = .iged) ∧ (s.len = 0 ∨ s.len.toNat % 16 ≠ 0)) := by
  have hzero : s.len.toNat = 0 ↔ s.len = 0 := BitVec.toNat_inj (y := 0)
  rw [lengthFails, decide_eq_true_iff, hzero]
  cases i <;> simp [isMode]

theorem cursorFails_iff (i : Instr) (s : State) : cursorFails i s = true ↔ i = .ctr ∧ 16 ≤ s.cur.toNat :=
  decide_eq_true_iff

/-- Settles O8: the length check comes first. -/
theorem invalidLengthExactly : Obligations.InvalidLengthExactly := fun i s =>
  (validate_eq_iff_firstFailing i s .invalidLength).trans (lengthFails_iff i s)

/-- Settles O9: only the cursor check looks at the cursor, and only for CTR. -/
theorem invalidStateExactly : Obligations.InvalidStateExactly := by
  refine ⟨fun i s => ?_, fun i s c hi => ?_⟩
  · rw [validate_eq_iff_firstFailing, FirstFailing, lengthFails_iff, cursorFails_iff]
    constructor
    · rintro ⟨hlen, rfl, hcur⟩
      exact ⟨rfl, fun h0 => hlen (.inl ⟨rfl, h0⟩), hcur⟩
    · rintro ⟨rfl, h0, hcur⟩
      exact ⟨by simpa using h0, rfl, hcur⟩
  · have hcur (t : State) : ¬ cursorFails i t := fun h => hi ((cursorFails_iff i t).mp h).1
    rw [validate_eq_first_failing, validate_eq_first_failing, if_neg (hcur _), if_neg (hcur _)]
    rfl

/-! ### The two ranges -/

theorem rangeFails_iff (i : Instr) (s : State) :
    rangeFails i s = true ↔
      (i ≠ .kse ∧ i ≠ .ksd) ∧
        (s.cfg.dmemBytes < s.src.toNat + (if i = .encb ∨ i = .decb then 16 else s.len.toNat) ∨
          s.cfg.dmemBytes < s.dst.toNat + (if i = .encb ∨ i = .decb then 16 else s.len.toNat)) := by
  rw [rangeFails, decide_eq_true_iff, ← movesData_iff]
  exact and_congr_right fun h => by rw [byteCount_of_movesData h]

/-- Two ranges of `n` bytes each start before the other one ends exactly when they have a byte in common. -/
theorem ranges_meet_iff (a b n : Nat) : a < b + n ∧ b < a + n ↔ ∃ x, (a ≤ x ∧ x < a + n) ∧ (b ≤ x ∧ x < b + n) :=
  ⟨fun ⟨ha, hb⟩ => ⟨max a b, by omega, by omega⟩, fun ⟨x, hx, hx'⟩ => by omega⟩

theorem overlapFails_iff (i : Instr) (s : State) :
    overlapFails i s = true ↔
      (i ≠ .kse ∧ i ≠ .ksd) ∧ s.src ≠ s.dst ∧ ∃ a : Nat,
        (s.src.toNat ≤ a ∧ a < s.src.toNat + (if i = .encb ∨ i = .decb then 16 else s.len.toNat)) ∧
        (s.dst.toNat ≤ a ∧ a < s.dst.toNat + (if i = .encb ∨ i = .decb then 16 else s.len.toNat)) := by
  rw [overlapFails, decide_eq_true_iff, ← movesData_iff, ranges_meet_iff, Ne, BitVec.toNat_inj]
  exact and_congr_right fun h => by rw [byteCount_of_movesData h]

/-- Settles O10: the range check comes after those of the length and the cursor. -/
theorem rangeExactly : Obligations.RangeExactly := by
  intro i s
  simp only [Ne, validate_eq_iff_firstFailing, FirstFailing, rangeFails_iff]
  tauto

/-- Settles O11: the overlap check comes after that of the ranges, and ranges meet in a byte that both hold. -/
theorem overlapExactly : Obligations.OverlapExactly := by
  intro i s
  simp only [Ne, validate_eq_iff_firstFailing, FirstFailing, overlapFails_iff]
  tauto

/-! ### The schedule -/

theorem scheduleFails_iff (i : Instr) (s : State) :
    scheduleFails i s = true ↔ (i = .encb ∧ s.eksValid = false) ∨ (i = .decb ∧ s.dksValid = false) :=
  decide_eq_true_iff

/-- ENCB and DECB have no length and no cursor, and move 16 bytes (R265, R266, R267). -/
theorem block_earlier_checks_pass_iff {i : Instr} (s : State) (h : i = .encb ∨ i = .decb) :
    (¬ lengthFails i s ∧ ¬ cursorFails i s ∧ ¬ rangeFails i s ∧ ¬ overlapFails i s) ↔
      s.src.toNat + 16 ≤ s.cfg.dmemBytes ∧ s.dst.toNat + 16 ≤ s.cfg.dmemBytes ∧
        (s.src = s.dst ∨ s.src.toNat + 16 ≤ s.dst.toNat ∨ s.dst.toNat + 16 ≤ s.src.toNat) := by
  have hlen : lengthFails i s = false := by rcases h with rfl | rfl <;> rfl
  have hcur : cursorFails i s = false := by rcases h with rfl | rfl <;> rfl
  have hm : i ≠ .kse ∧ i ≠ .ksd := by rcases h with rfl | rfl <;> decide
  rw [hlen, hcur, rangeFails_iff, and_iff_right hm, overlapFails_iff, and_iff_right hm, if_pos h, ← ranges_meet_iff,
    ← BitVec.toNat_inj, BitVec.toNat_ne]
  simp only [Bool.false_eq_true, not_false_eq_true, true_and]
  omega

/-- Settles O12: of the earlier checks, only those of the ranges can fail for the two commands that need a schedule. -/
theorem noScheduleExactly : Obligations.NoScheduleExactly := by
  intro i s
  rw [validate_eq_iff_firstFailing, ← scheduleFails_iff]
  refine ⟨fun h => ?_, fun ⟨hs, h⟩ => ?_⟩
  · obtain ⟨hlen, hcur, hr, ho, hs⟩ := h
    have hi : i = .encb ∨ i = .decb := ((scheduleFails_iff i s).mp hs).imp And.left And.left
    exact ⟨hs, (block_earlier_checks_pass_iff s hi).mp ⟨hlen, hcur, hr, ho⟩⟩
  · have hi : i = .encb ∨ i = .decb := ((scheduleFails_iff i s).mp hs).imp And.left And.left
    obtain ⟨hlen, hcur, hr, ho⟩ := (block_earlier_checks_pass_iff s hi).mpr h
    exact ⟨hlen, hcur, hr, ho, hs⟩

end Sys2Proof.Machine
end

section
/-!
PROOFS. What has no effect (20_memory.md R82; 60_exceptions.md R262, R276, R295): the engine's turn while idle, refused shapes, and
writes while a command runs, with the flag `IGN` that they leave.
-/

namespace Sys2Proof.Machine

/-! ### The engine's turn while idle -/

theorem engineTurn_of_idle {s : State} (hp : s.phase = .idle) : s.engineTurn = .stay s := by
  rw [State.engineTurn, hp]

theorem popEvent_of_events {s : State} {e : Event} {rest : List Event} (he : s.events = e :: rest) :
    s.popEvent = { s with events := rest } := by
  rw [State.popEvent, he, List.tail_cons]

/-- Settles O31: an idle engine's turn keeps the state, whether it is the next input or none is left. -/
theorem idleEngineKeepsState : Obligations.IdleEngineKeepsState := by
  intro s rest hp
  refine ⟨fun he => step_of_nextAction_stay ?_, fun he => step_of_nextAction_stay ?_⟩
  · rw [State.nextAction, he]
    exact engineTurn_of_idle hp
  · rw [← popEvent_of_events he, State.nextAction, he]
    exact engineTurn_of_idle (s := s.popEvent) hp

/-! ### Shapes of accesses -/

theorem shapeAccepted_iff (width off : Nat) :
    shapeAccepted width off = true ↔ width = 32 ∧ off % 4 = 0 ∨ width = 8 ∧ 0x10000 ≤ off := by
  simp [shapeAccepted]

/-- An access in the window, out of reset. -/
theorem nextAction_accessAt {s : State} {a : Access} {off : Nat} {rest : List Event} (hr : s.inReset = false)
    (ho : off < 0x20000) (ha : a.addr = s.cfg.base + off) (he : s.events = .host a :: rest) :
    s.nextAction = ({ s with events := rest } : State).accessAt off a := by
  have hw : windowOffset ({ s with events := rest } : State).cfg a.addr = some off := by
    rw [ha]; exact windowOffset_base _ ho
  have hr' : ¬ ({ s with events := rest } : State).inReset = true := by rw [hr]; decide
  rw [nextAction_host he, State.hostAccess, hw]
  exact if_neg hr'

/-- Settles O42: out of reset the bus looks at an access's shape before anything else. -/
theorem refusedShapesHaveNoEffect : Obligations.RefusedShapesHaveNoEffect := by
  intro s width off v rest hr ho hshape he
  rw [← shapeAccepted_iff, Bool.not_eq_true] at hshape
  refine ⟨{ s with events := rest, resp := .busError }, step_of_nextAction_stay ?_, rfl, rfl⟩
  rcases he with he | he
  · rw [nextAction_accessAt hr ho rfl he, State.accessAt, hshape]; rfl
  · rw [nextAction_accessAt hr ho rfl he, State.accessAt, hshape]; rfl

/-! ### Writes while a command runs -/

theorem State.busy_of_run {s : State} (hp : s.phase = .run) : s.busy = true :=
  s.busy_iff.mpr hp

/-- A 32-bit write to any port but `STATUS` while a command runs (R276). -/
theorem step_write32_busy {s : State} {off : Nat} {v : Word} {rest : List Event} (hr : s.inReset = false)
    (hp : s.phase = .run) (ho : off < 0x20000) (h4 : off % 4 = 0) (hs : off ≠ 0x008)
    (he : s.events = .host (.write 32 (s.cfg.base + off) v) :: rest) :
    step s = .next { s with events := rest, resp := .wrote, ign := true } := by
  have hb : ({ s with events := rest, resp := .wrote } : State).busy = true := State.busy_of_run hp
  have hport : portOf off ≠ .status := fun h => hs (portOf_eq_status h)
  refine step_of_nextAction_stay ?_
  rw [nextAction_write32 hr ho h4 he, State.write32, if_neg hport, if_pos hb]
  rfl

/-- An 8-bit write to DMEM while a command runs (R276). -/
theorem step_write8_busy {s : State} {off : Nat} {v : Word} {rest : List Event} (hr : s.inReset = false)
    (hp : s.phase = .run) (ho : off < 0x20000) (hd : 0x10000 ≤ off)
    (he : s.events = .host (.write 8 (s.cfg.base + off) v) :: rest) :
    step s = .next { s with events := rest, resp := .wrote, ign := true } := by
  have hb : ({ s with events := rest, resp := .wrote } : State).busy = true := State.busy_of_run hp
  rw [step_write8 hr ho hd he, State.write8, if_pos hb]
  rfl

/-! ### What clears `IGN` -/

theorem accept_ign (i : Instr) (s : State) : (s.accept i).ign = s.ign := by
  rcases accept_cases i s with ⟨-, e⟩ | ⟨-, e⟩
  · rw [e]; rfl
  · rw [e]; rfl

theorem writePort_ign (s : State) (v : Word) {p : Port} (hp : p ≠ .status) : (s.writePort v p).ign = s.ign := by
  cases p with
  | status => exact absurd rfl hp
  | dmem a => rw [State.writePort]; split <;> rfl
  | _ => rfl

/-- The host clears `IGN` only by writing 1 to `STATUS[2]` (R35). -/
theorem hostAccess_keepsIgn {s t : State} {a : Access} (h : s.hostAccess a = .stay t) (hi : s.ign = true) :
    t.ign = true ∨ ∃ v : Word, a = .write 32 (s.cfg.base + 0x008) v ∧ v.getLsbD 2 = true := by
  have he := hostAccess_effect s a
  generalize s.hostAccess a = act at he h
  cases he with
  | answer _ _ hs => cases h; rw [AnswerOnly] at hs; rw [hs]; exact .inl hi
  | status v =>
    cases h
    cases hv : v.getLsbD 2 with
    | true => exact .inr ⟨v, rfl, hv⟩
    | false => exact .inl (by rw [State.writeStatus_ign, State.respond_ign, hi, hv]; rfl)
  | ignored => cases h; exact .inl rfl
  | command v =>
    rcases submit_cases (s.respond .wrote) v with ⟨i, -, e⟩ | ⟨-, -, e⟩
    · rw [e] at h; cases h
    · rw [e] at h; cases h; exact .inl hi
  | port off v _ _ _ hs => cases h; exact .inl ((writePort_ign _ v hs).trans hi)
  | byte => cases h; exact .inl ((State.writeByte_ign _ _ _).trans hi)

/-- Nothing clears `IGN` but reset and the host's write to `STATUS` (R276). -/
theorem step_keepsIgn {s t : State} (h : step s = .next t) (hi : s.ign = true) :
    t.ign = true ∨ s.events.head? = some .assertReset ∨
      ∃ v : Word, s.events.head? = some (.host (.write 32 (s.cfg.base + 0x008) v)) ∧ v.getLsbD 2 = true := by
  rcases step_cases h with
    ⟨-, -, e⟩ | ⟨-, -, -, e⟩ | ⟨a, rest, hev, ⟨i, -, -, -, -, e⟩ | e⟩ | ⟨hev, -⟩ | ⟨-, e⟩
  · rw [e]; exact .inl hi
  · obtain ⟨-, -, -, hign, -⟩ := keepsControl_commandBody s.latch.op s.popEvent
    rw [e]; exact .inl (hign.trans hi)
  · rw [e]; exact .inl ((accept_ign i _).trans hi)
  · rcases hostAccess_keepsIgn e hi with ht | ⟨v, rfl, hv⟩
    · exact .inl ht
    · exact .inr (.inr ⟨v, by rw [hev]; rfl, hv⟩)
  · exact .inr (.inl hev)
  · rw [e]; exact .inl hi

/-- Settles O41: `Write32` and `Write8` ignore a write while busy, and every step but the two named keeps `IGN`. -/
theorem busyWritesAreIgnored : Obligations.BusyWritesAreIgnored := by
  refine ⟨fun s width off v rest hr hp ho hs hshape he => ?_, fun s t h hi ht => ?_⟩
  · rcases hshape with ⟨rfl, h4⟩ | ⟨rfl, hd⟩
    · exact step_write32_busy hr hp ho h4 hs he
    · exact step_write8_busy hr hp ho hd he
  · exact (step_keepsIgn h hi).resolve_left (by rw [ht]; decide)

end Sys2Proof.Machine
end

section
/-!
PROOFS. The interrupt output (60_exceptions.md R280, R281): which steps raise `DONE` or `IE`, and that none raises both.
-/

namespace Sys2Proof.Machine

theorem State.irq_iff (s : State) : s.irq = true ↔ s.ie = true ∧ s.done = true :=
  Bool.and_eq_true_iff

theorem portOf_eq_ctrl {off : Nat} (h : portOf off = .ctrl) : off = 0x004 := by
  by_contra hn
  rw [portOf, if_neg (c := off = 0x004) hn] at h
  split_ifs at h

/-! ### What a step does to `IE` and `DONE` -/

/-- `IE` stays and `DONE` does not rise. -/
def KeepsIrqLow (s t : State) : Prop :=
  t.ie = s.ie ∧ (t.done = true → s.done = true)

/-- `IE` stays and `DONE` is set. -/
def SetsDone (s t : State) : Prop :=
  t.ie = s.ie ∧ t.done = true

/-- `IE` takes bit 0 of a word and `DONE` stays. -/
def SetsIe (v : Word) (s t : State) : Prop :=
  t.ie = v.getLsbD 0 ∧ t.done = s.done

/-- A write to a port but `CTRL` leaves `IE`, and none but that to `STATUS` touches `DONE`. -/
theorem writePort_keepsIrqLow (s : State) (v : Word) {p : Port} (hp : p ≠ .ctrl) : KeepsIrqLow s (s.writePort v p) := by
  cases p with
  | ctrl => exact absurd rfl hp
  | status => exact ⟨rfl, fun h => (Bool.and_eq_true_iff.mp h).1⟩
  | dmem a => rw [State.writePort]; split <;> exact ⟨rfl, id⟩
  | _ => exact ⟨rfl, id⟩

theorem writeByte_keepsIrqLow (s : State) (a : Nat) (b : Byte) : KeepsIrqLow s (s.writeByte a b) := ⟨rfl, id⟩

/-- Acceptance clears `DONE` or, for a command that fails validation, sets it. -/
theorem accept_done_cases (i : Instr) (s : State) : KeepsIrqLow s (s.accept i) ∨ SetsDone s (s.accept i) := by
  rcases accept_cases i s with ⟨-, e⟩ | ⟨-, e⟩
  · rw [e]; exact .inl ⟨rfl, fun h => nomatch h⟩
  · rw [e]; exact .inr ⟨rfl, rfl⟩

/-- A host access sets `DONE` only by a word to `CMD`, and writes `IE` only by a word to `CTRL`. -/
theorem hostAccess_irq_cases {s t : State} {a : Access} (h : s.hostAccess a = .stay t) :
    KeepsIrqLow s t ∨ (SetsDone s t ∧ ∃ v, a = .write 32 (s.cfg.base + 0x00C) v) ∨
      ∃ v, a = .write 32 (s.cfg.base + 0x004) v ∧ SetsIe v s t := by
  have he := hostAccess_effect s a
  generalize s.hostAccess a = act at he h
  cases he with
  | answer _ _ hs => cases h; rw [AnswerOnly] at hs; rw [hs]; exact .inl ⟨rfl, id⟩
  | status v => cases h; exact .inl (writePort_keepsIrqLow (s.respond .wrote) v (p := .status) (by decide))
  | ignored => cases h; exact .inl ⟨rfl, id⟩
  | command v =>
    rcases submit_cases (s.respond .wrote) v with ⟨i, -, e⟩ | ⟨-, -, e⟩
    · rw [e] at h; cases h
    · rw [e] at h; cases h; exact .inr (.inl ⟨⟨rfl, rfl⟩, v, rfl⟩)
  | port off v =>
    cases h
    by_cases hc : portOf off = .ctrl
    · rw [portOf_eq_ctrl hc]; exact .inr (.inr ⟨v, rfl, rfl, rfl⟩)
    · exact .inl (writePort_keepsIrqLow (s.respond .wrote) v hc)
  | byte => cases h; exact .inl (writeByte_keepsIrqLow (s.respond .wrote) _ _)

/-- What a step does to `IE` and `DONE`: it raises neither, it sets `DONE`, or it writes `IE`. -/
theorem step_irq_cases {s t : State} (h : step s = .next t) :
    KeepsIrqLow s t ∨ t.irq = false ∨
      (SetsDone s t ∧ (s.completesNext ∨ ∃ v, s.events.head? = some (.host (.write 32 (s.cfg.base + 0x00C) v)))) ∨
      ∃ v : Word, s.events.head? = some (.host (.write 32 (s.cfg.base + 0x004) v)) ∧ SetsIe v s t := by
  rcases step_cases h with
    ⟨-, -, e⟩ | ⟨hev, hp, -, e⟩ | ⟨a, rest, hev, ⟨i, -, -, -, ⟨v, rfl, -⟩, e⟩ | e⟩ | ⟨-, e⟩ | ⟨-, e⟩
  · rw [e]; exact .inl ⟨rfl, id⟩
  · obtain ⟨-, -, hie, -⟩ := keepsControl_commandBody s.latch.op s.popEvent
    rw [e]; exact .inr (.inr (.inl ⟨⟨hie, rfl⟩, .inl ⟨hp, hev⟩⟩))
  · rw [e]
    rcases accept_done_cases i (s.popEvent.respond .wrote) with hk | hd
    · exact .inl hk
    · exact .inr (.inr (.inl ⟨hd, .inr ⟨v, by rw [hev]; rfl⟩⟩))
  · rcases hostAccess_irq_cases e with hk | ⟨hd, v, rfl⟩ | ⟨v, rfl, hi⟩
    · exact .inl hk
    · exact .inr (.inr (.inl ⟨hd, .inr ⟨v, by rw [hev]; rfl⟩⟩))
    · exact .inr (.inr (.inr ⟨v, by rw [hev]; rfl, hi⟩))
  · rw [e]; exact .inr (.inl rfl)
  · rw [e]; exact .inl ⟨rfl, id⟩

/-- The two ways in which `IRQ` rises (R281). -/
theorem step_irq_rises {s t : State} (h : step s = .next t) (hs : s.irq = false) (ht : t.irq = true) :
    (s.done = false ∧ t.done = true ∧ t.ie = s.ie ∧
      (s.completesNext ∨ ∃ v, s.events.head? = some (.host (.write 32 (s.cfg.base + 0x00C) v)))) ∨
    (s.done = true ∧ s.ie = false ∧ t.ie = true ∧
      ∃ v : Word, s.events.head? = some (.host (.write 32 (s.cfg.base + 0x004) v)) ∧ v.getLsbD 0 = true) := by
  obtain ⟨hie, hdone⟩ := t.irq_iff.mp ht
  rcases step_irq_cases h with ⟨hk, hd⟩ | hl | ⟨⟨hk, -⟩, hcause⟩ | ⟨v, hev, hv, hd⟩
  · rw [s.irq_iff.mpr ⟨hk ▸ hie, hd hdone⟩] at hs; cases hs
  · rw [hl] at ht; cases ht
  · rw [State.irq, ← hk, hie, Bool.true_and] at hs
    exact .inl ⟨hs, hdone, hk, hcause⟩
  · rw [State.irq, ← hd, hdone, Bool.and_true] at hs
    exact .inr ⟨hd ▸ hdone, hs, hie, v, hev, hv ▸ hie⟩

/-- Settles O45: the edges follow from the two ways in which `IRQ` rises, since each leaves the other flag as it was. -/
theorem irqIsEnabledCompletion : Obligations.IrqIsEnabledCompletion := by
  refine ⟨State.irq_iff, fun s t h => ⟨fun ⟨hs, ht⟩ => ?_, fun hedge => ?_⟩, fun s t => step_irq_rises⟩
  · obtain ⟨hie, hdone⟩ := t.irq_iff.mp ht
    rcases step_irq_rises h hs ht with ⟨hd, -, hk, -⟩ | ⟨hd, hi, -⟩
    · exact .inl ⟨hd, hdone, hk ▸ hie, hie⟩
    · exact .inr ⟨hi, hie, hd, hdone⟩
  · rcases hedge with ⟨hd, hd', hi, hi'⟩ | ⟨hi, hi', hd, hd'⟩
    · exact ⟨by rw [State.irq, hd, Bool.and_false], t.irq_iff.mpr ⟨hi', hd'⟩⟩
    · exact ⟨by rw [State.irq, hi, Bool.false_and], t.irq_iff.mpr ⟨hi', hd'⟩⟩

end Sys2Proof.Machine
end

section
/-!
PROOFS. A host write that meets a completion (60_exceptions.md R282, R276; 20_memory.md R90): no body reads what such a write can
change, so the command's results are the same in either order.
-/

namespace Sys2Proof.Machine

/-! ### What no body reads -/

/-- `s` with other inputs to come, another answer of the bus and another `IGN`. -/
def State.withBus (es : List Event) (r : Response) (g : Bool) (s : State) : State :=
  { s with events := es, resp := r, ign := g }

section
variable (es : List Event) (r : Response) (g : Bool) (s : State)

@[simp] theorem State.withBus_latch : (s.withBus es r g).latch = s.latch := rfl
@[simp] theorem State.withBus_work : (s.withBus es r g).work = s.work := rfl
@[simp] theorem State.withBus_readBlock (a : Nat) : (s.withBus es r g).readBlock a = s.readBlock a := rfl
@[simp] theorem State.withBus_setWork (w : Work) :
    (s.withBus es r g).setWork w = (s.setWork w).withBus es r g := rfl
@[simp] theorem State.withBus_encryptInto (b : Block) :
    (s.withBus es r g).encryptInto b = (s.encryptInto b).withBus es r g := rfl
@[simp] theorem State.withBus_decryptInto (b : Block) :
    (s.withBus es r g).decryptInto b = (s.decryptInto b).withBus es r g := rfl
@[simp] theorem State.withBus_writeBlock (a : Nat) (b : Block) :
    (s.withBus es r g).writeBlock a b = (s.writeBlock a b).withBus es r g := rfl
@[simp] theorem State.withBus_setIv16 (b : Block) :
    (s.withBus es r g).setIv16 b = (s.setIv16 b).withBus es r g := rfl
@[simp] theorem withBus_deriveEks : deriveEks (s.withBus es r g) = (deriveEks s).withBus es r g := rfl
@[simp] theorem withBus_deriveDks : deriveDks (s.withBus es r g) = (deriveDks s).withBus es r g := rfl

end

section
variable (es : List Event) (r : Response) (g : Bool)

/-- The loop is the iterate of its body. -/
theorem repeatBody_eq_iterate (body : State → State) (n : Nat) : repeatBody body n = body^[n] := by
  induction n with
  | zero => rfl
  | succ n ih => funext s; rw [repeatBody, ih, Function.iterate_succ_apply]

theorem repeatBody_withBus {body : State → State} (h : ∀ s, body (s.withBus es r g) = (body s).withBus es r g) (n : Nat)
    (s : State) : repeatBody body n (s.withBus es r g) = (repeatBody body n s).withBus es r g := by
  rw [repeatBody_eq_iterate]
  exact Function.Commute.iterate_left (g := State.withBus es r g) h n s

theorem ctrByte_withBus (i c : Nat) (s : State) :
    ctrByte i c (s.withBus es r g) = (ctrByte i c s).withBus es r g := rfl

theorem ctrRefill_withBus (s : State) : ctrRefill (s.withBus es r g) = (ctrRefill s).withBus es r g := rfl

theorem ctrLoop_withBus (n i c : Nat) (s : State) :
    ctrLoop n i c (s.withBus es r g) = (ctrLoop n i c s).withBus es r g := by
  induction n generalizing i c s with
  | zero => rfl
  | succ n ih =>
    rw [ctrLoop, ctrLoop, apply_ite (State.withBus es r g), ctrByte_withBus, ctrRefill_withBus, ih, ih]

theorem cbcEncBlock_withBus (s : State) : cbcEncBlock (s.withBus es r g) = (cbcEncBlock s).withBus es r g := by
  simp [cbcEncBlock, cbcNext]

theorem cbcDecBlock_withBus (s : State) : cbcDecBlock (s.withBus es r g) = (cbcDecBlock s).withBus es r g := by
  simp [cbcDecBlock, cbcNext]

theorem igeBlock_withBus {transform : State → Block → State}
    (h : ∀ s b, transform (s.withBus es r g) b = (transform s b).withBus es r g) (s : State) :
    igeBlock transform (s.withBus es r g) = (igeBlock transform s).withBus es r g := by
  simp [igeBlock, h]

/-- No body reads the inputs to come, the bus's answer or `IGN`. -/
theorem commandBody_withBus (i : Instr) (s : State) :
    commandBody i (s.withBus es r g) = (commandBody i s).withBus es r g := by
  cases i with
  | kse => exact withBus_deriveEks es r g s
  | ksd => exact withBus_deriveDks es r g s
  | encb => simp [commandBody, bodyEncb]
  | decb => simp [commandBody, bodyDecb]
  | cbce => simp [commandBody, bodyCbce, cbcInit, repeatBody_withBus es r g (cbcEncBlock_withBus es r g)]
  | cbcd => simp [commandBody, bodyCbcd, cbcInit, repeatBody_withBus es r g (cbcDecBlock_withBus es r g)]
  | ctr => simp [commandBody, bodyCtr, ctrInit, ctrKeystream, ctrLoop_withBus]
  | igee => simp [commandBody, bodyIgee, igeInit,
      repeatBody_withBus es r g (igeBlock_withBus es r g (State.withBus_encryptInto es r g))]
  | iged => simp [commandBody, bodyIged, igeInit,
      repeatBody_withBus es r g (igeBlock_withBus es r g (State.withBus_decryptInto es r g))]

end

/-! ### The two orders -/

/-- The state in which the running command's completion leaves `s`. -/
def State.completed (s : State) : State :=
  (commandBody s.latch.op s).complete

section
variable {s : State} (h : s.Inv) (hp : s.phase = .run)
include h hp

theorem inReset_of_inv_run : s.inReset = false := by
  obtain ⟨-, -, hrun, -⟩ := h
  exact (hrun hp).1

theorem inv_withBus (es : List Event) (r : Response) (g : Bool) : (s.withBus es r g).Inv := by
  have hr := inReset_of_inv_run h hp
  obtain ⟨hc, hm, hrun, -⟩ := h
  exact ⟨hc, hm, hrun, fun hres => nomatch hr.symm.trans hres⟩

/-- The completion of a running command, whatever the bus has done before it. -/
theorem step_completion_withBus (rest : List Event) (r : Response) (g : Bool) :
    step (s.withBus (.engine :: rest) r g) = .next (s.completed.withBus rest r g) := by
  rw [step_of_inv_completesNext (inv_withBus h hp _ r g) ⟨hp, .inr rfl⟩]
  exact congrArg (fun t : State => Host.Outcome.next t.complete) (commandBody_withBus rest r g s.latch.op s)

end

/-- Settles O30: the write sets `IGN` before the completion or `SRC` after it, and the completion looks at neither. -/
theorem writeAndCompletionEitherOrder : Obligations.WriteAndCompletionEitherOrder := by
  intro s v rest h hp
  have hr := inReset_of_inv_run h hp
  obtain ⟨hcfg, hres, -, -, hsrc, -⟩ := keepsControl_commandBody s.latch.op s
  have hcomplete := step_completion_withBus h hp
  refine ⟨s.withBus (.engine :: rest) .wrote true, s.completed.withBus rest .wrote true,
    s.completed.withBus (.host (.write 32 (s.cfg.base + 0x010) v) :: rest) s.resp s.ign,
    { s.completed.withBus rest .wrote s.ign with src := v },
    ⟨?_, hcomplete rest .wrote true, hsrc, rfl, rfl, rfl⟩, ⟨hcomplete _ s.resp s.ign, ?_, rfl, rfl, rfl, rfl⟩,
    rfl, rfl, rfl, rfl, rfl, rfl⟩
  · exact step_write32_busy (s := { s with events := .host (.write 32 (s.cfg.base + 0x010) v) :: .engine :: rest })
      hr hp (by decide) rfl (by decide) rfl
  · exact step_write32_idle (off := 0x010) .src (hres.trans hr) rfl (by decide) rfl rfl (by decide) (by decide)
      (by rw [← hcfg]; rfl)

end Sys2Proof.Machine
end

section
/-!
PROOFS. Reset (70_reset_and_hazards.md R300, R301): what asserting it does to the registers and to DMEM, what releasing it changes, and
that an access made in between has no effect.
-/

namespace Sys2Proof.Machine

/-! ### DMEM when a command is abandoned -/

/-- The bytes outside the range that becomes unspecified (R301). -/
theorem scramble_sameOutside (a n : Nat) (s : State) : SameOutside a n s (State.scramble a n s) := by
  intro x hx
  induction n generalizing a s with
  | zero => rfl
  | succ n ih =>
    have hne : x ≠ a := by omega
    calc (State.scramble a (n + 1) s).readByte x
      _ = (s.writeByte a (Config.freeByte s.draws)).readByte x := ih (a + 1) _ (by omega)
      _ = s.readByte x := by rw [State.readByte_writeByte, if_neg fun h => hne h.1]

theorem abandon_of_idle {s : State} (hp : s.phase = .idle) : s.abandon = s := by
  rw [State.abandon, hp]

theorem abandon_of_run {s : State} (hp : s.phase = .run) :
    s.abandon = State.scramble s.latch.dst.toNat s.latch.n.toNat s := by
  rw [State.abandon, hp]

theorem abandon_events (s : State) : s.abandon.events = s.events := by
  rw [State.abandon]; split
  · rfl
  · rw [scramble_frame]

/-! ### The two edges -/

theorem step_assertReset {s : State} {rest : List Event} (he : s.events = .assertReset :: rest) :
    step s = .next s.popEvent.assertReset :=
  step_of_nextAction_stay (by rw [State.nextAction, he])

theorem step_releaseReset {s : State} {rest : List Event} (he : s.events = .releaseReset :: rest) :
    step s = .next s.popEvent.releaseReset :=
  step_of_nextAction_stay (by rw [State.nextAction, he])

theorem assertReset_registersReset (s : State) : s.assertReset.registersReset :=
  ⟨rfl, rfl, rfl, rfl, rfl, rfl, rfl, rfl, rfl, rfl, rfl, rfl, rfl⟩

theorem assertReset_cfg (s : State) : s.assertReset.cfg = s.cfg :=
  abandon_cfg s

theorem assertReset_events (s : State) : s.assertReset.events = s.events :=
  abandon_events s

theorem assertReset_dmem (s : State) : s.assertReset.dmem = s.abandon.dmem := rfl

theorem assertReset_dmem_of_idle {s : State} (hp : s.phase = .idle) : s.assertReset.dmem = s.dmem := by
  rw [assertReset_dmem, abandon_of_idle hp]

/-- A reset while a command runs leaves every byte outside the command's destination (R301). -/
theorem assertReset_sameOutside {s : State} (hp : s.phase = .run) :
    SameOutside s.latch.dst.toNat s.latch.n.toNat s s.assertReset := by
  intro x hx
  calc s.assertReset.readByte x
    _ = s.abandon.readByte x := State.readByte_congr (assertReset_dmem s) x
    _ = s.readByte x := by rw [abandon_of_run hp]; exact scramble_sameOutside _ _ s x hx

/-- Settles O33: registers and DMEM after an assertion, by the lemmas above; a release writes the reset input only. -/
theorem resetEventEffect : Obligations.ResetEventEffect := by
  refine ⟨fun s rest he => ?_, fun s rest he => ?_⟩
  · have hevents : s.popEvent.assertReset.events = rest := by
      rw [assertReset_events, popEvent_of_events he]
    exact ⟨s.popEvent.assertReset, step_assertReset he, assertReset_registersReset _, rfl, rfl, assertReset_cfg _,
      hevents, assertReset_dmem_of_idle (s := s.popEvent), assertReset_sameOutside (s := s.popEvent)⟩
  · rw [step_releaseReset he, popEvent_of_events he, State.releaseReset]

/-! ### Accesses while reset is asserted -/

/-- In reset an access of any shape, in the window or outside it, only answers (R300). -/
theorem hostAccess_inReset {s : State} (a : Access) (hr : s.inReset = true) :
    ∃ t, s.hostAccess a = .stay t ∧ AnswerOnly s t := by
  rw [State.hostAccess]; split
  · exact ⟨_, rfl, respond_answerOnly s _⟩
  · exact ⟨_, if_pos hr, accessInReset_answerOnly s a⟩

/-- Settles O34: the access only answers, and the step takes it from the list of inputs. -/
theorem accessInResetHasNoEffect : Obligations.AccessInResetHasNoEffect := by
  intro s a rest hr he
  obtain ⟨t, ht, hanswer⟩ := hostAccess_inReset (s := { s with events := rest }) a hr
  exact ⟨t, step_of_nextAction_stay ((nextAction_host he).trans ht), hanswer⟩

end Sys2Proof.Machine
end
